-- ==== Sys2Proof/Word.lean ====
section
/-! DEFINITION. The words of YuS-CORE: the command word, bytes, field elements, scalars and vectors.

The widths are the defaults rule R11 (00_scope.md) gives: PW = 64 and XW = 2 * PW = 128. -/

namespace Sys2Proof

/-- A 32-bit command word, host address or control register (R35, R71, R100). -/
abbrev Word := BitVec 32

/-- One byte of the nonce or of the hash input and output (R41, R79). -/
abbrev Byte := BitVec 8

/-- The contents of a field-element register: an unsigned PW-bit integer, PW = 64 (R11, R13, R33). -/
abbrev Elem := BitVec 64

/-- The contents of a scalar register: an unsigned XW-bit integer, XW = 128 (R11, R34). -/
abbrev Scalar := BitVec 128

/-- The contents of a vector register: 36 elements (R12, R33). -/
abbrev Vec := Vector Elem 36

/-- A vector selector: names one of V0..V3 (R103). -/
abbrev VReg := Fin 4

/-- A scalar selector: names one of X0..X3 (R104). -/
abbrev XReg := Fin 4

end Sys2Proof
end

