-- ==== Sys2Proof/Config.lean ====
section
/-! DEFINITION. What an implementation of YuS-CORE fixes (R11, 93_implementation_defined.md section 2) and
the free values the spec leaves open.

A free value is an `opaque` constant: nothing in Lean can evaluate it, so a claim about it holds whatever it is. -/

namespace Sys2Proof

/-- The order in which a byte string spells an integer (D8, D9). -/
inductive ByteOrder where
  | big
  | little
  deriving DecidableEq, Repr, Inhabited

/-- The parameters of the model that are functions or switches (R11, 93_implementation_defined.md section 2).
`matrix r c` is the bit M[r][c] of R170.
`xof input n` is the `n`-byte output of the extendable-output hash, or `none` where the hash fails (D7).
`indexOrder` and `chunkOrder` are the two byte orders that D8 and D9 fix to big-endian. -/
structure Params where
  matrix     : Fin 36 → Fin 36 → Bool
  xof        : List Byte → (n : Nat) → Option (Vector Byte n)
  indexOrder : ByteOrder
  chunkOrder : ByteOrder

/-- One draw of every element whose value after reset is unspecified (R51, R301). -/
structure ResetDraw where
  prime    : Elem
  v        : Vector Vec 4
  x        : Vector Scalar 4
  nonceBuf : Vector Byte 64
  /-- The contents of OUT as (index, element) pairs in any order. A later pair overrides an earlier one, and an
  index outside OUT is dropped. -/
  out      : List (Nat × Elem)
  key      : Vec
  nonce    : Vector Byte 64
  nl       : Fin 65
  deriving DecidableEq, Repr, Inhabited

namespace Config

/-- PW, the width of a field-element register: the default of R11. -/
abbrev PW : Nat := 64

/-- XW = 2 * PW, the width of a scalar register (R11, D3). -/
abbrev XW : Nat := 128

/-- NMAX, the capacity of the nonce buffer in bytes: the default of R11. -/
abbrev NMAX : Nat := 64

/-- OUT_DEPTH, the capacity of the keystream memory in elements: the default of R11. -/
abbrev OUT_DEPTH : Nat := 4096

/-- The 36 by 36 binary matrix M. The source does not give it and the spec leaves it OPEN (R170, D6), so it
is a free constant: every claim about this model holds for every M. Log entry 1. -/
opaque matrix : Fin 36 → Fin 36 → Bool

/-- What the n-th host read taken while BUSY = 1 returns, before it is cut to the width of what is read:
"a fresh draw of the element's width on each read" (R312, 93_implementation_defined.md section 1). Log entry 5. -/
opaque busyRead : Nat → BitVec 128

/-- The unspecified contents that the n-th reset of a running device leaves (R51, R300, R301, R302). Log entry 6. -/
opaque resetDraw : Nat → ResetDraw

end Config
end Sys2Proof
end

