-- ==== Sys2Proof/Machine/State.lean ====
section
/-! DEFINITION. The state of YuS-CORE as plain data (10_state.md), the machine right after reset (R51, R300), and the
ways a step can stop. INVENTORY.md lists every field with its rule, width and reset value. -/

namespace Sys2Proof.Machine

/-- STATUS.STATE: the three device states of R31. Encoding 3 is never held (R31), so it has no constructor. -/
inductive DevState where
  | noparam
  | unconfigured
  | ready
  deriving DecidableEq, Repr

/-- STATUS.ERR: the codes of R271. Codes 7 to 15 are never written (R271), so they have no constructor. -/
inductive ErrCode where
  | ok
  | invalidParameter
  | invalidInput
  | notInitialized
  | primitiveFailure
  | notConstructed
  | illegalCommand
  deriving DecidableEq, Repr

/-- The phase of the keystream sequencer (R49). -/
inductive Phase where
  | whiten
  | round
  | finalDiffusion
  | truncate
  deriving DecidableEq, Repr

/-- The keystream sequencer (R32, R49): block index j, round index r, phase and working 36-element state. -/
structure Sequencer where
  j     : Nat
  r     : Nat
  phase : Phase
  work  : Vec
  deriving DecidableEq, Repr

/-- What takes the next step in the one total order of R85: the engine's completion step, a host access (R72), or
the reset input (R300). -/
inductive Turn where
  /-- The engine takes its completion step, if a command is pending (R311). -/
  | engine
  /-- MemRead(addr, 1) (R72). -/
  | read (addr : Word)
  /-- MemWrite(addr, 1, v) (R72). -/
  | write (addr : Word) (v : Nat)
  /-- The reset input is asserted (R300, R302). -/
  | reset
  deriving DecidableEq, Repr

/-- The keystream memory OUT (R44) as pairs (index, element). `Memory.wf` in Machine/Ops.lean is its canonical form. -/
abbrev Memory := List (Nat × Elem)

/-- Everything the spec gives the machine, and after it the model's own three fields. -/
structure State where
  /-- PEND (R50): the accepted command word while BUSY = 1, and `none` while BUSY = 0. STATUS.BUSY is `pend.isSome`. -/
  pend     : Option Word
  /-- STATUS.STATE (R31, R42). -/
  dev      : DevState
  /-- STATUS.ERR (R42, R271). -/
  err      : ErrCode
  /-- STATUS.OVR (R42). -/
  ovr      : Bool
  /-- PRIME (R36). -/
  prime    : Elem
  /-- P (R37). -/
  p        : Elem
  /-- ROUNDS[2:0] (R38). Bits [31:3] read 0. -/
  rounds   : BitVec 3
  /-- TRUNC[5:0] (R39). Bits [31:6] read 0. -/
  trunc    : BitVec 6
  /-- NONCE_LEN[15:0] (R40). Bits [31:16] read 0. -/
  nonceLen : BitVec 16
  /-- NONCE_BUF (R41). -/
  nonceBuf : Vector Byte 64
  /-- OUT_LEN (R43). -/
  outLen   : Word
  /-- OUT (R44). -/
  out      : Memory
  /-- V0..V3 (R33). -/
  v        : Vector Vec 4
  /-- X0..X3 (R34). -/
  x        : Vector Scalar 4
  /-- KEY (R46). -/
  key      : Vec
  /-- The storage of NONCE (R47). Its first `nl` bytes are the nonce. -/
  nonce    : Vector Byte 64
  /-- NL (R47). -/
  nl       : Fin 65
  /-- The sequencer state (R32, R49): `none` when no command is pending (R51). -/
  seq      : Option Sequencer
  /-- The model's own: who takes the coming steps, first at the head (R85). Log entry 3. -/
  turns    : List Turn
  /-- The model's own: the values host reads have returned, latest first (R72). Log entry 4. -/
  replies  : List Nat
  /-- The model's own: how many free values have been drawn. Log entries 5 and 6. -/
  draws    : Nat
  deriving DecidableEq, Repr

/-- The machine right after reset (R51, R300), with no turn to come. PRIME, V, X, NONCE_BUF, OUT, KEY, NONCE and NL,
which the spec leaves unspecified, are zero. DESIGN CHOICE, unsafe: log entry 2. -/
def State.reset : State where
  pend     := none
  dev      := .noparam
  err      := .ok
  ovr      := false
  prime    := 0
  p        := 0
  rounds   := 0
  trunc    := 0
  nonceLen := 0
  nonceBuf := Vector.replicate 64 0
  outLen   := 0
  out      := []
  v        := Vector.replicate 4 (Vector.replicate 36 0)
  x        := Vector.replicate 4 0
  key      := Vector.replicate 36 0
  nonce    := Vector.replicate 64 0
  nl       := 0
  seq      := none
  turns    := []
  replies  := []
  draws    := 0

/-- The reasons a step can stop with a fault: there is none. Every error of YuS-CORE is a completion code, after
which the next command is executed normally (R270), and every command completes (R311). -/
inductive Fault where
  deriving DecidableEq, Repr

/-- The reasons a step can be refused. -/
inductive Refusal where
  /-- Raised by an arm of `exec` for a command without a meaning in this model. No arm raises it. Safe. -/
  | notModelled (mnemonic : String)
  deriving DecidableEq, Repr

end Sys2Proof.Machine
end

