-- ==== Sys2Proof/Machine/Xof.lean ====
section
/-! DEFINITION. The default extendable-output hash, SHAKE128 (R11, D7), and the parameters the machine runs with.

SHAKE128 is "from general knowledge, not in source" (R11, R275). It is written here from FIPS 202, with the 1600-bit
state held as one number whose bits 64i..64i+63 are lane i = x + 5y. PRESUMED: log entry 7. -/

namespace Sys2Proof.Machine

namespace Keccak

/-- The rotation of each lane in step rho, for lane x + 5y. -/
def rotations : List Nat :=
  [0, 1, 62, 28, 27] ++ [36, 44, 6, 55, 20] ++ [3, 10, 43, 25, 39] ++ [41, 45, 15, 21, 8] ++ [18, 2, 61, 56, 14]

/-- The constants of step iota, round 0 first. -/
def roundConstants : List Nat :=
  [0x0000000000000001, 0x0000000000008082, 0x800000000000808A, 0x8000000080008000,
   0x000000000000808B, 0x0000000080000001, 0x8000000080008081, 0x8000000000008009] ++
  [0x000000000000008A, 0x0000000000000088, 0x0000000080008009, 0x000000008000000A,
   0x000000008000808B, 0x800000000000008B, 0x8000000000008089, 0x8000000000008003] ++
  [0x8000000000008002, 0x8000000000000080, 0x000000000000800A, 0x800000008000000A,
   0x8000000080008081, 0x8000000000008080, 0x0000000080000001, 0x8000000080008008]

/-- Lane i of a packed sequence of 64-bit lanes. -/
def lane (a i : Nat) : Nat := (a >>> (64 * i)) % 2 ^ 64

/-- The packed sequence of the lanes `f 0 .. f (n-1)`. -/
def pack (f : Nat → Nat) : Nat → Nat
  | 0 => 0
  | n + 1 => pack f n ||| (f n <<< (64 * n))

/-- A 64-bit lane rotated left by k < 64. -/
def rotl (x k : Nat) : Nat := (x <<< k ||| x >>> (64 - k)) % 2 ^ 64

/-- The parity of each of the five columns, packed. -/
def parities (a : Nat) : Nat :=
  pack (fun x => lane a x ^^^ lane a (x + 5) ^^^ lane a (x + 10) ^^^ lane a (x + 15) ^^^ lane a (x + 20)) 5

/-- Theta, given the column parities c. -/
def thetaWith (a c : Nat) : Nat :=
  pack (fun i => lane a i ^^^ lane c ((i % 5 + 4) % 5) ^^^ rotl (lane c ((i % 5 + 1) % 5)) 1) 25

/-- Step theta. -/
def theta (a : Nat) : Nat := thetaWith a (parities a)

/-- The lane that steps rho and pi move to lane i = X + 5Y: x = X + 3Y mod 5 and y = X. -/
def movedFrom (i : Nat) : Nat := (i % 5 + 3 * (i / 5)) % 5 + 5 * (i % 5)

/-- Steps rho and pi. -/
def rhoPi (a : Nat) : Nat :=
  pack (fun i => rotl (lane a (movedFrom i)) (rotations.getD (movedFrom i) 0)) 25

/-- Step chi. -/
def chi (a : Nat) : Nat :=
  pack (fun i =>
    lane a i ^^^ ((lane a ((i + 1) % 5 + 5 * (i / 5)) ^^^ (2 ^ 64 - 1)) &&& lane a ((i + 2) % 5 + 5 * (i / 5)))) 25

/-- One round, iota last. -/
def round (a rc : Nat) : Nat := chi (rhoPi (theta a)) ^^^ rc

/-- The permutation Keccak-f[1600]. -/
def permute (a : Nat) : Nat := roundConstants.foldl round a

/-- The rate of SHAKE128 in bytes. -/
def rate : Nat := 168

/-- The number a byte string spells, least significant byte first. -/
def ofBytes (bs : List Byte) : Nat := bs.foldr (fun b acc => acc * 256 + b.toNat) 0

/-- The suffix 1111 and the padding that bring a message of n bytes to a whole number of blocks. -/
def padding (n : Nat) : List Byte :=
  if rate - n % rate = 1 then [0x9F] else 0x1F :: (List.replicate (rate - n % rate - 2) 0 ++ [0x80])

/-- Absorb the given number of blocks. -/
def absorb (a : Nat) (msg : List Byte) : Nat → Nat
  | 0 => a
  | n + 1 => absorb (permute (a ^^^ ofBytes (msg.take rate))) (msg.drop rate) n

/-- The first `rate` bytes of the state. -/
def block (a : Nat) : List Byte := (List.range rate).map fun t => BitVec.ofNat 8 (a >>> (8 * t))

/-- Squeeze the given number of blocks. -/
def squeeze (a : Nat) : Nat → List Byte
  | 0 => []
  | n + 1 => block a ++ squeeze (permute a) n

theorem length_squeeze (a n : Nat) : (squeeze a n).length = 168 * n := by
  induction n generalizing a with
  | zero => rfl
  | succ n ih => simp [squeeze, block, rate, ih]; omega

end Keccak

/-- The first n bytes of SHAKE128 of a message. -/
def shake128Bytes (msg : List Byte) (n : Nat) : List Byte :=
  (Keccak.squeeze (Keccak.absorb 0 (msg ++ Keccak.padding msg.length) (msg.length / Keccak.rate + 1))
    (n / Keccak.rate + 1)).take n

theorem length_shake128Bytes (msg : List Byte) (n : Nat) : (shake128Bytes msg n).length = n := by
  simp [shake128Bytes, Keccak.length_squeeze, Keccak.rate]; omega

/-- SHAKE128 as the XOF parameter: it never fails (R275). -/
def shake128 (msg : List Byte) (n : Nat) : Option (Vector Byte n) :=
  some ⟨(shake128Bytes msg n).toArray, by simp [length_shake128Bytes]⟩

/-- The parameters the machine runs with: M free (D6), SHAKE128 (D7), both byte orders big-endian (D8, D9). -/
def params : Params where
  matrix     := Config.matrix
  xof        := shake128
  indexOrder := .big
  chunkOrder := .big

end Sys2Proof.Machine
end

