-- ==== Sys2Proof/Machine/Ops.lean ====
section
/-! DEFINITION. The operations every meaning shares: arithmetic mod p, vectors, the keystream memory, register
access, the completion of a command with and without an error, and reset. -/

namespace Sys2Proof.Machine

/-! ## Arithmetic (00_scope.md rules R15, R17) -/

/-- mod(a, p): the residue of any integer in [0, p-1], negative ones included (R17). -/
def mod (a : Int) (p : Nat) : Nat := (a % (p : Int)).toNat

/-- mod(a, p) as the contents of a field-element register, for the modulus in register P. -/
def elemMod (a : Int) (p : Elem) : Elem := BitVec.ofNat 64 (mod a p.toNat)

/-- The bytes of the 4-byte encoding of n in the given order. Big-endian is be32 (R15, R202, D8). -/
def bytes32 (order : ByteOrder) (n : Nat) : List Byte :=
  let big := [BitVec.ofNat 8 (n / 2 ^ 24), BitVec.ofNat 8 (n / 2 ^ 16), BitVec.ofNat 8 (n / 2 ^ 8), BitVec.ofNat 8 n]
  match order with
  | .big => big
  | .little => big.reverse

/-- The number a byte string spells, most significant byte first: be64_to_int on 8 bytes (R15, R203). -/
def natOfBytes (bs : List Byte) : Nat := bs.foldl (fun acc b => acc * 256 + b.toNat) 0

/-- The number a chunk spells in the given order (R203, D9). -/
def chunkToNat (order : ByteOrder) (bs : List Byte) : Nat :=
  match order with
  | .big => natOfBytes bs
  | .little => natOfBytes bs.reverse

/-! ## Vectors (R16) -/

/-- The vector of the values of f, element k being f k. -/
def tabulate {α : Type} {n : Nat} (f : Fin n → α) : Vector α n := ⟨(List.ofFn f).toArray, by simp⟩

/-! ## The keystream memory OUT (R44) -/

/-- What an index that is not listed reads as: 0. DESIGN CHOICE, unsafe: log entry 2. -/
def Memory.blank : Elem := 0

/-- The canonical form: strictly rising indexes inside OUT, and no entry equal to what an unlisted index reads as. -/
abbrev Memory.wf (m : Memory) : Prop :=
  m.Pairwise (fun a b => a.1 < b.1) ∧ ∀ c ∈ m, c.1 < Config.OUT_DEPTH ∧ c.2 ≠ Memory.blank

/-- OUT[n]. -/
def Memory.read : Memory → Nat → Elem
  | [], _ => Memory.blank
  | c :: m, n => if c.1 = n then c.2 else Memory.read m n

/-- An entry put in front, unless it says what an unlisted index reads as. -/
def Memory.enter (n : Nat) (e : Elem) (m : Memory) : Memory := if e = Memory.blank then m else (n, e) :: m

/-- OUT[n] <- e, the canonical form kept, for an index known to lie in OUT. -/
def Memory.insert (n : Nat) (e : Elem) : Memory → Memory
  | [] => Memory.enter n e []
  | c :: m =>
    if n < c.1 then Memory.enter n e (c :: m)
    else if c.1 = n then Memory.enter n e m
    else c :: Memory.insert n e m

/-- OUT[n] <- e. An index outside OUT names no element (R73), so nothing is written. -/
def Memory.write (m : Memory) (n : Nat) (e : Elem) : Memory :=
  if n < Config.OUT_DEPTH then Memory.insert n e m else m

/-- OUT[n], OUT[n+1], ... <- the elements of a list. -/
def Memory.writeList (m : Memory) (n : Nat) : List Elem → Memory
  | [] => m
  | e :: es => Memory.writeList (m.write n e) (n + 1) es

/-- A memory with the given contents, written one pair after the other into a blank one. -/
def Memory.ofPairs (ps : List (Nat × Elem)) : Memory := ps.foldl (fun m c => m.write c.1 c.2) []

/-! ## Registers -/

/-- STATUS.BUSY: 1 from the acceptance of a command to its completion (R42). -/
def State.busy (s : State) : Bool := s.pend.isSome

/-- V[r] (R14). -/
def State.vec (s : State) (r : VReg) : Vec := s.v[r]

/-- X[r] (R14). -/
def State.scalar (s : State) (r : XReg) : Scalar := s.x[r]

/-- V[r] <- e (R14). -/
def State.setVec (s : State) (r : VReg) (e : Vec) : State := { s with v := s.v.set r e }

/-- X[r] <- the XW-bit integer n (R14, R34). -/
def State.setScalar (s : State) (r : XReg) (n : Nat) : State := { s with x := s.x.set r (BitVec.ofNat 128 n) }

/-- V[r][k] <- e (R14). -/
def State.setElem (s : State) (r : VReg) (k : Fin 36) (e : Elem) : State := s.setVec r ((s.vec r).set k e)

/-- PRIME <- e (R36). -/
def State.setPrime (s : State) (e : Elem) : State := { s with prime := e }

/-- NONCE_LEN[15:0] <- n (R40). -/
def State.setNonceLen (s : State) (n : BitVec 16) : State := { s with nonceLen := n }

/-- NONCE_BUF[b] <- e (R41). -/
def State.setNonceByte (s : State) (b : Fin 64) (e : Byte) : State := { s with nonceBuf := s.nonceBuf.set b e }

/-- PEND <- w, and so BUSY <- 1: the acceptance of a command (R50, R310). -/
def State.accept (s : State) (w : Word) : State := { s with pend := some w }

/-- The turns to come (log entry 3). -/
def State.setTurns (s : State) (ts : List Turn) : State := { s with turns := ts }

/-- A host read has returned n (log entry 4). -/
def State.reply (s : State) (n : Nat) : State := { s with replies := n :: s.replies }

/-- A free value has been drawn (log entries 5 and 6). -/
def State.countDraw (s : State) : State := { s with draws := s.draws + 1 }

/-- The nonce byte string NONCE[0], ..., NONCE[NL-1] (R47). -/
def State.nonceBytes (s : State) : List Byte := s.nonce.toList.take s.nl

/-- What a successful CONFIG writes beside ERR (R235). -/
def State.loadConfig (s : State) (q : Elem) (rounds : BitVec 3) (m : BitVec 6) : State :=
  { s with p := q, rounds := rounds, trunc := m, dev := .unconfigured }

/-- What a successful INIT writes beside ERR (R240): KEY <- k, NONCE <- NONCE_BUF[0..len-1], NL <- len, READY. -/
def State.loadKey (s : State) (k : Vec) (len : Nat) : State :=
  { s with
    key := k
    nonce := tabulate fun b => if b.val < len then s.nonceBuf[b] else s.nonce[b]
    nl := Fin.ofNat 65 len
    dev := .ready }

/-- What a successful KS writes beside ERR (R248, R249), and the last state of its sequencer (R49). -/
def State.storeKeystream (s : State) (buf : List Elem) (seq : Option Sequencer) : State :=
  { s with out := s.out.writeList 0 buf, outLen := BitVec.ofNat 32 buf.length, seq := seq }

/-! ## Completion of a command (60_exceptions.md section 3, R311) -/

/-- `raise E`: the command ends with ERR = E and writes no destination (R14, R280). This is the CORE's only
"trap entry": it saves nothing, changes no mode and moves no control (R281). There is no return from it (R282). -/
def State.raise (e : ErrCode) (s : State) : State := { s with err := e }

/-- The end of a body: ERR <- 0 (R280, R311). -/
def State.succeed (s : State) : State := { s with err := .ok }

/-- A body's result committed in one step: the code alone if the body raised one, else its writes and ERR = 0
(R280, R311). -/
def settle (r : Except ErrCode State) (s : State) : Host.Outcome State Fault Refusal :=
  match r with
  | .error e => .next (s.raise e)
  | .ok t => .next t.succeed

/-- The last part of a body that calls the hash: PrimitiveFailure where the hash failed (R201, R247, R275), else what
the result leads to. -/
def hashed {α : Type} (o : Option α) (f : α → State) : Except ErrCode State :=
  match o with
  | none => .error .primitiveFailure
  | some a => .ok (f a)

/-- BUSY <- 0 (R311): the pending word and the sequencer state are discarded (R49, R50). -/
def State.finish (s : State) : State := { s with pend := none, seq := none }

/-! ## Reset (R51, R300, R302) -/

/-- Reset asserted: every piece of state takes its value of R51, a pending command is abandoned, and the unspecified
ones take a draw (R301, R302). The turns to come and the replies are no state of the CORE. -/
def State.resetWith (d : ResetDraw) (s : State) : State where
  pend     := none
  dev      := .noparam
  err      := .ok
  ovr      := false
  prime    := d.prime
  p        := 0
  rounds   := 0
  trunc    := 0
  nonceLen := 0
  nonceBuf := d.nonceBuf
  outLen   := 0
  out      := Memory.ofPairs d.out
  v        := d.v
  x        := d.x
  key      := d.key
  nonce    := d.nonce
  nl       := d.nl
  seq      := none
  turns    := s.turns
  replies  := s.replies
  draws    := s.draws

/-- The reset input during a run, with the next free draw. -/
def takeReset (s : State) : State := (s.resetWith (Config.resetDraw s.draws)).countDraw

end Sys2Proof.Machine
end

