-- ==== Sys2Proof/Machine/Flags.lean ====
section
/-! DEFINITION. The fields of STATUS and the word a host read of it returns (10_state.md rules R31, R42; R271, R312). -/

namespace Sys2Proof.Machine

/-- The encoding of STATE (R31). -/
def DevState.code : DevState → Nat
  | .noparam => 0
  | .unconfigured => 1
  | .ready => 2

/-- The error code (R271). -/
def ErrCode.code : ErrCode → Nat
  | .ok => 0
  | .invalidParameter => 1
  | .invalidInput => 2
  | .notInitialized => 3
  | .primitiveFailure => 4
  | .notConstructed => 5
  | .illegalCommand => 6

/-- STATUS from its fields: BUSY [0], STATE [2:1], ERR [7:4], OVR [8], the rest reading 0 (R42). -/
def statusOf (busy : Bool) (dev err : Nat) (ovr : Bool) : Nat :=
  busy.toNat + dev * 2 + err * 16 + ovr.toNat * 256

/-- What a host read of STATUS returns while BUSY = 0 (R42). -/
def statusWord (s : State) : Nat := statusOf s.busy s.dev.code s.err.code s.ovr

/-- What a host read of STATUS returns while BUSY = 1: STATE and ERR are unspecified, BUSY and OVR are right (R312).
The two fields are bits 1..0 and 7..4 of the draw. -/
def busyStatusWord (d : BitVec 128) (s : State) : Nat :=
  statusOf true (d.toNat % 4) (d.toNat / 16 % 16) s.ovr

/-- OVR <- 1 (R313). -/
def State.setOverrun (s : State) : State := { s with ovr := true }

/-- OVR <- 0 (R42, R313). -/
def State.clearOverrun (s : State) : State := { s with ovr := false }

end Sys2Proof.Machine
end

