-- ==== Sys2Proof/Machine/Bus.lean ====
section
/-! DEFINITION. The host's side: the address map, reads and writes (20_memory.md), with the busy rules
(70_reset_and_hazards.md section 3). -/

namespace Sys2Proof.Machine

/-- What a host address selects (R73). -/
inductive Target where
  | cmd
  | status
  | prime
  | p
  | rounds
  | trunc
  | nonceLen
  | outLen
  | x (r : XReg)
  | v (r : VReg) (k : Fin 36)
  | nonceBuf (b : Fin 64)
  | out (n : Fin 4096)
  | reserved
  deriving DecidableEq, Repr

/-- The register arrays of R73. Every address that is in none of them is reserved. -/
def arrayTarget (n : Nat) : Target :=
  if h : 0x10 ≤ n ∧ n < 0x14 then .x ⟨n - 0x10, by omega⟩
  else if h : 0x100 ≤ n ∧ n < 0x200 ∧ n % 64 < 36 then .v ⟨(n - 0x100) / 64, by omega⟩ ⟨n % 64, h.2.2⟩
  else if h : 0x1000 ≤ n ∧ n < 0x1040 then .nonceBuf ⟨n - 0x1000, by omega⟩
  else if h : 0x100000 ≤ n ∧ n < 0x101000 then .out ⟨n - 0x100000, by omega⟩
  else .reserved

/-- The map of R73, for the address n. -/
def targetOf (n : Nat) : Target :=
  match n with
  | 0 => .cmd
  | 1 => .status
  | 2 => .prime
  | 3 => .p
  | 4 => .rounds
  | 5 => .trunc
  | 6 => .nonceLen
  | 7 => .outLen
  | n => arrayTarget n

/-- What a host address selects (R71, R73). -/
def target (a : Word) : Target := targetOf a.toNat

/-- The width w of R73. A reserved address has none. -/
def Target.width : Target → Nat
  | .cmd => 32
  | .status => 32
  | .prime => Config.PW
  | .p => Config.PW
  | .rounds => 32
  | .trunc => 32
  | .nonceLen => 32
  | .outLen => 32
  | .x _ => Config.XW
  | .v _ _ => Config.PW
  | .nonceBuf _ => 8
  | .out _ => Config.PW
  | .reserved => 0

/-- The value a host read returns while BUSY = 0, zero-extended (R72 to R74). CMD reads 0 (R35). -/
def idleRead (s : State) : Target → Nat
  | .cmd => 0
  | .status => statusWord s
  | .prime => s.prime.toNat
  | .p => s.p.toNat
  | .rounds => s.rounds.toNat
  | .trunc => s.trunc.toNat
  | .nonceLen => s.nonceLen.toNat
  | .outLen => s.outLen.toNat
  | .x r => (s.scalar r).toNat
  | .v r k => (s.vec r)[k].toNat
  | .nonceBuf b => s.nonceBuf[b].toNat
  | .out n => (s.out.read n).toNat
  | .reserved => 0

/-- The value a host read returns while BUSY = 1 (R312): STATUS has BUSY and OVR right, CMD and reserved addresses read
0, and any other address returns an unspecified value of its width. -/
def busyRead (d : BitVec 128) (s : State) (t : Target) : Nat :=
  match t with
  | .cmd => 0
  | .reserved => 0
  | .status => busyStatusWord d s
  | _ => d.toNat % 2 ^ t.width

/-- MemRead(addr, 1) (R72): the value is returned, and nothing of the CORE changes (R82). A read that returns an
unspecified value takes a draw. -/
def hostRead (a : Word) (s : State) : State :=
  if s.busy then (s.reply (busyRead (Config.busyRead s.draws) s (target a))).countDraw
  else s.reply (idleRead s (target a))

/-- The write of the value n to what an address selects, while BUSY = 0: the low w bits are stored (R72), a CMD write
accepts a command (R35, R310), a STATUS write with bit 8 = 1 clears OVR (R42), and a write to a read-only register or a
reserved address is ignored (R74, R75). -/
def idleWrite (t : Target) (n : Nat) (s : State) : State :=
  match t with
  | .cmd => s.accept (BitVec.ofNat 32 n)
  | .status => if n.testBit 8 then s.clearOverrun else s
  | .prime => s.setPrime (BitVec.ofNat 64 n)
  | .p => s
  | .rounds => s
  | .trunc => s
  | .nonceLen => s.setNonceLen (BitVec.ofNat 16 n)
  | .outLen => s
  | .x r => s.setScalar r n
  | .v r k => s.setElem r k (BitVec.ofNat 64 n)
  | .nonceBuf b => s.setNonceByte b (BitVec.ofNat 8 n)
  | .out _ => s
  | .reserved => s

/-- MemWrite(addr, 1, n) (R72). While BUSY = 1 every write is ignored and sets OVR (R313). -/
def hostWrite (a : Word) (n : Nat) (s : State) : State :=
  if s.busy then s.setOverrun else idleWrite (target a) n s

end Sys2Proof.Machine
end

