-- ==== Sys2Proof/Syntax.lean ====
section
/-! DEFINITION. The fourteen commands of YuS-CORE (30_encoding.md rule R109), one constructor each. -/

namespace Sys2Proof

/-- A command with its operand fields (R101, R102, R109). `len`, `lvl` and `m6` are the numbers LEN, LVL and M6
of the command word, unsigned and zero-extended (R105, R106). -/
inductive Instr where
  /-- SBOX vd, vs, len: the S-box on one triple (R142). -/
  | sbox (vd vs1 : VReg) (len : Nat)
  /-- SBOXL vd, vs, len: the S-box layer (R144). -/
  | sboxl (vd vs1 : VReg) (len : Nat)
  /-- ISPERM xd: is the S-box a permutation (R147). -/
  | isperm (xd : XReg)
  /-- DIFFU xd: the differential uniformity (R148). -/
  | diffu (xd : XReg)
  /-- LIN vd, vs, len: the linear layer (R172). -/
  | lin (vd vs1 : VReg) (len : Nat)
  /-- LBN xd: the linear branch number (R175). -/
  | lbn (xd : XReg)
  /-- DBN xd: the differential branch number (R176). -/
  | dbn (xd : XReg)
  /-- RC vd, xi, xj: a round constant (R204). -/
  | rc (vd : VReg) (xa xb : XReg)
  /-- RKEY vd, vs1, vs2, len: a round key (R205). -/
  | rkey (vd vs1 vs2 : VReg) (len : Nat)
  /-- ARK vd, vs1, vs2, len: key addition (R206). -/
  | ark (vd vs1 vs2 : VReg) (len : Nat)
  /-- CONFIG level, m: load a configuration (R235). -/
  | config (lvl m6 : Nat)
  /-- INIT vs, len: load the master key and the nonce (R240). -/
  | init (vs1 : VReg) (len : Nat)
  /-- ROUND vd, vs1, vs2, len: one round transform (R243). -/
  | round (vd vs1 vs2 : VReg) (len : Nat)
  /-- KS xa: generate keystream (R248). -/
  | ks (xa : XReg)
  deriving DecidableEq, Repr

end Sys2Proof
end

