-- ==== Sys2Proof/WellFormed.lean ====
section
/-! DEFINITION. Which instructions a command word can spell: every number fits its field (R101, R105, R106).

The selectors fit by their type (R103, R104). LEN other than the length a command requires, LVL 2 and 3 and M6
above 36 are legal encodings (R105, R106): the command itself checks them. -/

namespace Sys2Proof

/-- LEN and M6 are 6-bit fields (R101). -/
abbrev fitsLen (n : Nat) : Bool := decide (n < 64)

/-- LVL is a 2-bit field (R101, R106). -/
abbrev fitsLvl (n : Nat) : Bool := decide (n < 4)

/-- An instruction is well formed when each of its numbers fits the field of the command word that holds it. -/
def Instr.wellFormed : Instr → Bool
  | .sbox _ _ len => fitsLen len
  | .sboxl _ _ len => fitsLen len
  | .isperm _ => true
  | .diffu _ => true
  | .lin _ _ len => fitsLen len
  | .lbn _ => true
  | .dbn _ => true
  | .rc _ _ _ => true
  | .rkey _ _ _ len => fitsLen len
  | .ark _ _ _ len => fitsLen len
  | .config lvl m6 => fitsLvl lvl && fitsLen m6
  | .init _ len => fitsLen len
  | .round _ _ _ len => fitsLen len
  | .ks _ => true

/-- The same as a proposition. -/
abbrev WellFormed (i : Instr) : Prop := i.wellFormed = true

end Sys2Proof
end

