-- ==== Sys2Proof/Decode.lean ====
section
/-! DEFINITION. Decoding a command word, total on all 2^32 words (30_encoding.md rules R100 to R113), and after it
the encoder, written from the same field table (R101, R114). -/

namespace Sys2Proof

/-- Why a word is Illegal (R113): `reservedOpcode` is R110, `mustBeZero` is R111. -/
inductive DecodeError where
  | reservedOpcode
  | mustBeZero
  deriving DecidableEq, Repr

/-- The seven formats of R102. -/
inductive Format where
  | v1
  | v2
  | rc
  | q
  | cfg
  | init
  | ks
  deriving DecidableEq, Repr

/-- The mask column of R102: the bits a word of the format must match. -/
def Format.mask : Format → Word
  | .v1 => 0xFF0C0FFF
  | .v2 => 0xFF000FFF
  | .rc => 0xFF3FF0FF
  | .q => 0xFFFFFF3F
  | .cfg => 0xFF3C0FFF
  | .init => 0xFFCC0FFF
  | .ks => 0xFFFFF3FF

/-- The mnemonics of the opcode map (R109). -/
inductive Mnemonic where
  | SBOX | SBOXL | ISPERM | DIFFU | LIN | LBN | DBN | RC | RKEY | ARK | CONFIG | INIT | ROUND | KS
  deriving DecidableEq, Repr

/-- The OPC column of R109. -/
def Mnemonic.opc : Mnemonic → Nat
  | .SBOX => 0x10
  | .SBOXL => 0x11
  | .ISPERM => 0x12
  | .DIFFU => 0x13
  | .LIN => 0x20
  | .LBN => 0x21
  | .DBN => 0x22
  | .RC => 0x30
  | .RKEY => 0x31
  | .ARK => 0x32
  | .CONFIG => 0x40
  | .INIT => 0x41
  | .ROUND => 0x42
  | .KS => 0x43

/-- The format column of R109. -/
def Mnemonic.format : Mnemonic → Format
  | .SBOX => .v1
  | .SBOXL => .v1
  | .ISPERM => .q
  | .DIFFU => .q
  | .LIN => .v1
  | .LBN => .q
  | .DBN => .q
  | .RC => .rc
  | .RKEY => .v2
  | .ARK => .v2
  | .CONFIG => .cfg
  | .INIT => .init
  | .ROUND => .v2
  | .KS => .ks

/-- The fourteen rows of R109 in the table's order. -/
def Mnemonic.all : List Mnemonic :=
  [.SBOX, .SBOXL, .ISPERM, .DIFFU, .LIN, .LBN, .DBN, .RC, .RKEY, .ARK, .CONFIG, .INIT, .ROUND, .KS]

/-- match_c = OPC_c << 24 (R102). -/
def Mnemonic.matchWord (c : Mnemonic) : Word := BitVec.ofNat 32 (c.opc * 2 ^ 24)

/-- The word selects command c exactly when (w AND mask_c) = match_c (R102). -/
def Mnemonic.selects (c : Mnemonic) (w : Word) : Bool := w &&& c.format.mask == c.matchWord

/-- The field of `2 ^ width` values whose lowest bit is bit `lo` (R13, R101). -/
def field (w : Word) (lo width : Nat) : Nat := w.toNat / 2 ^ lo % 2 ^ width

/-- A 2-bit selector field whose lowest bit is bit `lo` (R101, R103, R104). -/
def selector (w : Word) (lo : Nat) : Fin 4 := Fin.ofNat 4 (w.toNat / 2 ^ lo)

/-- OPC = w[31:24]. -/
def opcField (w : Word) : Nat := field w 24 8
/-- VD = w[23:22]. -/
def vdField (w : Word) : VReg := selector w 22
/-- VS1 = w[21:20]. -/
def vs1Field (w : Word) : VReg := selector w 20
/-- VS2 = w[19:18]. -/
def vs2Field (w : Word) : VReg := selector w 18
/-- LEN = w[17:12]. -/
def lenField (w : Word) : Nat := field w 12 6
/-- XA = w[11:10]. -/
def xaField (w : Word) : XReg := selector w 10
/-- XB = w[9:8]. -/
def xbField (w : Word) : XReg := selector w 8
/-- XD = w[7:6]. -/
def xdField (w : Word) : XReg := selector w 6
/-- LVL = w[23:22] in CONFIG (R106). -/
def lvlField (w : Word) : Nat := field w 22 2
/-- M6 = w[17:12] in CONFIG (R106). -/
def m6Field (w : Word) : Nat := field w 12 6

/-- The command with the fields its format uses (R102, R113). -/
def Mnemonic.build (w : Word) : Mnemonic → Instr
  | .SBOX => .sbox (vdField w) (vs1Field w) (lenField w)
  | .SBOXL => .sboxl (vdField w) (vs1Field w) (lenField w)
  | .ISPERM => .isperm (xdField w)
  | .DIFFU => .diffu (xdField w)
  | .LIN => .lin (vdField w) (vs1Field w) (lenField w)
  | .LBN => .lbn (xdField w)
  | .DBN => .dbn (xdField w)
  | .RC => .rc (vdField w) (xaField w) (xbField w)
  | .RKEY => .rkey (vdField w) (vs1Field w) (vs2Field w) (lenField w)
  | .ARK => .ark (vdField w) (vs1Field w) (vs2Field w) (lenField w)
  | .CONFIG => .config (lvlField w) (m6Field w)
  | .INIT => .init (vs1Field w) (lenField w)
  | .ROUND => .round (vdField w) (vs1Field w) (vs2Field w) (lenField w)
  | .KS => .ks (xaField w)

/-- The row of R109 with this OPC, if there is one. -/
def mnemonicOf (opc : Nat) : Option Mnemonic := Mnemonic.all.find? fun c => c.opc == opc

/-- Decoding of R113: first the opcode, then the bits the format requires to be 0. -/
def decode (w : Word) : Except DecodeError Instr :=
  match mnemonicOf (opcField w) with
  | none => .error .reservedOpcode
  | some c => if c.selects w then .ok (c.build w) else .error .mustBeZero

/-- The instruction the decoder reads from a command whose bits are `w`, of which `nbits` are given and the rest
are 0. A command is one 32-bit word and there is no other length (R100). -/
def decodeTableWord (nbits w : Nat) : Option Instr :=
  if w % 2 ^ nbits < 2 ^ 32 then (decode (BitVec.ofNat 32 (w % 2 ^ nbits))).toOption else none

/-- A word from its opcode and the numbers of its fields above bit 12 and below it, at the places of R101. -/
def assemble (c : Mnemonic) (vd vs1 vs2 len xa xb xd : Nat) : Word :=
  BitVec.ofNat 32
    (c.opc * 2 ^ 24 + vd * 2 ^ 22 + vs1 * 2 ^ 20 + vs2 * 2 ^ 18 + len * 2 ^ 12 + xa * 2 ^ 10 + xb * 2 ^ 8 + xd * 2 ^ 6)

/-- The command word of an instruction: the table of R114, fields that a format does not use being 0. -/
def encode : Instr → Word
  | .sbox vd vs1 len => assemble .SBOX vd vs1 0 len 0 0 0
  | .sboxl vd vs1 len => assemble .SBOXL vd vs1 0 len 0 0 0
  | .isperm xd => assemble .ISPERM 0 0 0 0 0 0 xd
  | .diffu xd => assemble .DIFFU 0 0 0 0 0 0 xd
  | .lin vd vs1 len => assemble .LIN vd vs1 0 len 0 0 0
  | .lbn xd => assemble .LBN 0 0 0 0 0 0 xd
  | .dbn xd => assemble .DBN 0 0 0 0 0 0 xd
  | .rc vd xa xb => assemble .RC vd 0 0 0 xa xb 0
  | .rkey vd vs1 vs2 len => assemble .RKEY vd vs1 vs2 len 0 0 0
  | .ark vd vs1 vs2 len => assemble .ARK vd vs1 vs2 len 0 0 0
  | .config lvl m6 => assemble .CONFIG lvl 0 0 m6 0 0 0
  | .init vs1 len => assemble .INIT 0 vs1 0 len 0 0 0
  | .round vd vs1 vs2 len => assemble .ROUND vd vs1 vs2 len 0 0 0
  | .ks xa => assemble .KS 0 0 0 0 xa 0 0

/-- The row of the opcode table an instruction stands for. -/
def Instr.mnemonic : Instr → Mnemonic
  | .sbox _ _ _ => .SBOX
  | .sboxl _ _ _ => .SBOXL
  | .isperm _ => .ISPERM
  | .diffu _ => .DIFFU
  | .lin _ _ _ => .LIN
  | .lbn _ => .LBN
  | .dbn _ => .DBN
  | .rc _ _ _ => .RC
  | .rkey _ _ _ _ => .RKEY
  | .ark _ _ _ _ => .ARK
  | .config _ _ => .CONFIG
  | .init _ _ => .INIT
  | .round _ _ _ _ => .ROUND
  | .ks _ => .KS

end Sys2Proof
end

