-- ==== Sys2Proof/Machine/Operands.lean ====
section
/-! DEFINITION. The operand checks the commands share (60_exceptions.md rule R273) and the checks of CONFIG
(44_cipher.md rules R232 to R234). -/

namespace Sys2Proof.Machine

/-- A field element is canonical when it lies in [0, p-1] (R18). -/
abbrev Canonical (e p : Elem) : Prop := e.toNat < p.toNat

/-- Every element of the vector is canonical (R273 (b), D11). -/
abbrev AllCanonical (a : Vec) (p : Elem) : Prop := ∀ k : Fin 36, Canonical a[k] p

/-- An index or count read from a scalar register must be below 2^32 (R273 (c), D12). -/
abbrev InRange32 (x : Scalar) : Prop := x.toNat < 2 ^ 32

/-- The modulus check: q mod 3 = 2 and q > 2^16, both strict, and no test of primality (R19, R232). -/
abbrev ModulusOk (q : Elem) : Prop := q.toNat % 3 = 2 ∧ q.toNat > 2 ^ 16

/-- The round count of a security level: 5 for SEC80 (LVL 0) and 6 for SEC128 (LVL 1) (R233). -/
def roundsOfLevel (lvl : Nat) : BitVec 3 := if lvl = 0 then 5 else 6

/-- The number of elements KS would produce: B * (36 - m) (R43, R244). -/
def keystreamLength (b m : Nat) : Nat := b * (36 - m)

end Sys2Proof.Machine
end

