-- ==== Sys2Proof/Machine/Linear.lean ====
section
/-! DEFINITION. The LinearLayer unit: LIN, LBN, DBN (42_linear.md), and the table-driven evaluation of R173. -/

namespace Sys2Proof.Machine

/-- The integer sum of the x[c] with M[r][c] = 1, before reduction (R171). -/
def rowSum (c : Params) (x : Vec) (r : Fin 36) : Nat :=
  (List.ofFn fun k : Fin 36 => if c.matrix r k then x[k].toNat else 0).sum

/-- L_p(x) = M x mod p: an integer sum, not an XOR (R171, 90_conflicts.md C1 and C2). -/
def linearLayer (c : Params) (p : Elem) (x : Vec) : Vec :=
  tabulate fun r => elemMod (rowSum c x r) p

/-! The table T of R48: derived from M, immutable and not observable, so it is no field of State. It is written here
in the reading of R173 that agrees with R171. -/

/-- Column 4g + b of group g (R173). -/
def groupColumn (g : Fin 9) (b : Fin 4) : Fin 36 := ⟨4 * g.val + b.val, by omega⟩

/-- T[g][mask]: the columns 4g + b of group g whose bit b of the mask is 1 (R48, R173). -/
def tableEntry (g : Fin 9) (mask : Fin 16) : List (Fin 36) :=
  ((List.ofFn fun b : Fin 4 => b).filter fun b => mask.val.testBit b.val).map (groupColumn g)

/-- mask_{r,g}, the sum over b of M[r][4g + b] * 2^b (R173). -/
def rowMask (c : Params) (r : Fin 36) (g : Fin 9) : Fin 16 :=
  Fin.ofNat 16 (List.ofFn fun b : Fin 4 => (c.matrix r (groupColumn g b)).toNat * 2 ^ b.val).sum

/-- The linear layer evaluated with nine table lookups a row (R173). -/
def linearByTable (c : Params) (p : Elem) (x : Vec) : Vec :=
  tabulate fun r =>
    elemMod ((List.ofFn fun g : Fin 9 => ((tableEntry g (rowMask c r g)).map fun k => x[k].toNat).sum).sum : Nat) p

/-- The body of LIN (R172). -/
def linBody (c : Params) (vd vs1 : VReg) (len : Nat) (s : State) : Except ErrCode State :=
  if s.dev = .noparam then .error .notConstructed
  else if len ≠ 36 then .error .invalidInput
  else if ¬ AllCanonical (s.vec vs1) s.p then .error .invalidInput
  else .ok (s.setVec vd (linearLayer c s.p (s.vec vs1)))

/-- LIN (R172). -/
def execLin (vd vs1 : VReg) (len : Nat) (s : State) : Host.Outcome State Fault Refusal :=
  settle (linBody params vd vs1 len s) s

/-- The body of LBN: the constant 6, in every device state (R175, D40). -/
def lbnBody (xd : XReg) (s : State) : Except ErrCode State := .ok (s.setScalar xd 6)

/-- LBN (R175). -/
def execLbn (xd : XReg) (s : State) : Host.Outcome State Fault Refusal :=
  settle (lbnBody xd s) s

/-- The body of DBN: the constant 10, in every device state (R176, D40). -/
def dbnBody (xd : XReg) (s : State) : Except ErrCode State := .ok (s.setScalar xd 10)

/-- DBN (R176). -/
def execDbn (xd : XReg) (s : State) : Host.Outcome State Fault Refusal :=
  settle (dbnBody xd s) s

end Sys2Proof.Machine
end

