-- ==== Sys2Proof/Machine/RoundKey.lean ====
section
/-! DEFINITION. The RoundKeyGenerator unit: RC, RKEY, ARK (43_roundkey.md). -/

namespace Sys2Proof.Machine

/-- The hash input: the nonce, then the block index j, then the round index i, 4 bytes each (R79, R202). -/
def hashInput (c : Params) (nonce : List Byte) (i j : Nat) : List Byte :=
  nonce ++ bytes32 c.indexOrder j ++ bytes32 c.indexOrder i

/-- Chunk k of the hash output, H[8k] to H[8k+7], as an unsigned integer (R203). -/
def chunk (c : Params) (h : Vector Byte 288) (k : Fin 36) : Nat :=
  chunkToNat c.chunkOrder ((h.toList.drop (8 * k.val)).take 8)

/-- A residue with 0 forced to 1 (R201, R203). -/
def forceNonzero (e : Elem) : Elem := if e = 0 then 1 else e

/-- RCF(N, i, j, p): 36 nonzero elements, or `none` for PrimitiveFailure (R201). -/
def roundConstant (c : Params) (nonce : List Byte) (i j : Nat) (p : Elem) : Option Vec :=
  match c.xof (hashInput c nonce i j) 288 with
  | none => none
  | some h => some (tabulate fun k => forceNonzero (elemMod (chunk c h k) p))

/-- The elementwise product mod p (R205). -/
def mulVec (p : Elem) (a b : Vec) : Vec := tabulate fun k => elemMod (a[k].toNat * b[k].toNat) p

/-- The elementwise sum mod p (R206). -/
def addVec (p : Elem) (a b : Vec) : Vec := tabulate fun k => elemMod (a[k].toNat + b[k].toNat) p

/-- The body of RC (R204). The checks come in the order of R279. -/
def rcBody (c : Params) (vd : VReg) (xa xb : XReg) (s : State) : Except ErrCode State :=
  if s.dev = .noparam then .error .notConstructed
  else if s.dev = .unconfigured then .error .notInitialized
  else if ¬ (InRange32 (s.scalar xa) ∧ InRange32 (s.scalar xb)) then .error .invalidInput
  else
    hashed (roundConstant c s.nonceBytes (s.scalar xa).toNat (s.scalar xb).toNat s.p) fun r => s.setVec vd r

/-- RC (R204). -/
def execRc (vd : VReg) (xa xb : XReg) (s : State) : Host.Outcome State Fault Refusal :=
  settle (rcBody params vd xa xb s) s

/-- The body of RKEY (R205). KEY is not read. -/
def rkeyBody (vd vs1 vs2 : VReg) (len : Nat) (s : State) : Except ErrCode State :=
  if s.dev = .noparam then .error .notConstructed
  else if len ≠ 36 then .error .invalidInput
  else if ¬ (AllCanonical (s.vec vs1) s.p ∧ AllCanonical (s.vec vs2) s.p) then .error .invalidInput
  else .ok (s.setVec vd (mulVec s.p (s.vec vs1) (s.vec vs2)))

/-- RKEY (R205). -/
def execRkey (vd vs1 vs2 : VReg) (len : Nat) (s : State) : Host.Outcome State Fault Refusal :=
  settle (rkeyBody vd vs1 vs2 len s) s

/-- The body of ARK (R206). -/
def arkBody (vd vs1 vs2 : VReg) (len : Nat) (s : State) : Except ErrCode State :=
  if s.dev = .noparam then .error .notConstructed
  else if len ≠ 36 then .error .invalidInput
  else if ¬ (AllCanonical (s.vec vs1) s.p ∧ AllCanonical (s.vec vs2) s.p) then .error .invalidInput
  else .ok (s.setVec vd (addVec s.p (s.vec vs1) (s.vec vs2)))

/-- ARK (R206). -/
def execArk (vd vs1 vs2 : VReg) (len : Nat) (s : State) : Host.Outcome State Fault Refusal :=
  settle (arkBody vd vs1 vs2 len s) s

end Sys2Proof.Machine
end

