-- ==== Sys2Proof/Machine/Sbox.lean ====
section
/-! DEFINITION. The SBox unit: SBOX, SBOXL, ISPERM, DIFFU (41_sbox.md). -/

namespace Sys2Proof.Machine

/-- S_p(x0, x1, x2) (R141). y0 = x0 is not reduced: the commands accept canonical elements only. -/
def sboxMap (p x0 x1 x2 : Elem) : Elem × Elem × Elem :=
  let a : Int := x0.toNat
  let b : Int := x1.toNat
  let c : Int := x2.toNat
  (x0, elemMod (a * c + b) p, elemMod (-a * b + a * c + c) p)

/-- One of the three elements of an S-box output. -/
def pick (t : Elem × Elem × Elem) (k : Nat) : Elem :=
  if k = 0 then t.1 else if k = 1 then t.2.1 else t.2.2

/-- SL_p: the S-box on each of the 12 contiguous triples (3q, 3q+1, 3q+2) (R143, D10). -/
def sboxLayer (p : Elem) (s : Vec) : Vec :=
  tabulate fun k =>
    pick (sboxMap p s[3 * (k.val / 3)] s[3 * (k.val / 3) + 1] s[3 * (k.val / 3) + 2]) (k.val % 3)

/-- A vector whose first three elements are replaced (R142, D29). -/
def setTriple (e : Vec) (y : Elem × Elem × Elem) : Vec := ((e.set 0 y.1).set 1 y.2.1).set 2 y.2.2

/-- The first three elements are canonical. -/
abbrev TripleCanonical (e : Vec) (p : Elem) : Prop := Canonical e[0] p ∧ Canonical e[1] p ∧ Canonical e[2] p

/-- The body of SBOX (R142). Elements 3..35 of the source are neither read nor checked. -/
def sboxBody (vd vs1 : VReg) (len : Nat) (s : State) : Except ErrCode State :=
  if s.dev = .noparam then .error .notConstructed
  else if len ≠ 3 then .error .invalidInput
  else if ¬ TripleCanonical (s.vec vs1) s.p then .error .invalidInput
  else .ok (s.setVec vd (setTriple (s.vec vd) (sboxMap s.p (s.vec vs1)[0] (s.vec vs1)[1] (s.vec vs1)[2])))

/-- SBOX (R142). -/
def execSbox (vd vs1 : VReg) (len : Nat) (s : State) : Host.Outcome State Fault Refusal :=
  settle (sboxBody vd vs1 len s) s

/-- The body of SBOXL (R144). -/
def sboxlBody (vd vs1 : VReg) (len : Nat) (s : State) : Except ErrCode State :=
  if s.dev = .noparam then .error .notConstructed
  else if len ≠ 36 then .error .invalidInput
  else if ¬ AllCanonical (s.vec vs1) s.p then .error .invalidInput
  else .ok (s.setVec vd (sboxLayer s.p (s.vec vs1)))

/-- SBOXL (R144). -/
def execSboxl (vd vs1 : VReg) (len : Nat) (s : State) : Host.Outcome State Fault Refusal :=
  settle (sboxlBody vd vs1 len s) s

/-- The body of ISPERM: 1 for every modulus the CORE can hold (R147, D24). -/
def ispermBody (xd : XReg) (s : State) : Except ErrCode State :=
  if s.dev = .noparam then .error .notConstructed
  else .ok (s.setScalar xd 1)

/-- ISPERM (R147). -/
def execIsperm (xd : XReg) (s : State) : Host.Outcome State Fault Refusal :=
  settle (ispermBody xd s) s

/-- The body of DIFFU: the integer p * p, not reduced (R148). -/
def diffuBody (xd : XReg) (s : State) : Except ErrCode State :=
  if s.dev = .noparam then .error .notConstructed
  else .ok (s.setScalar xd (s.p.toNat * s.p.toNat))

/-- DIFFU (R148). -/
def execDiffu (xd : XReg) (s : State) : Host.Outcome State Fault Refusal :=
  settle (diffuBody xd s) s

end Sys2Proof.Machine
end

