-- ==== Sys2Proof/Machine/Cipher.lean ====
section
/-! DEFINITION. The YuSCipher orchestrator: CONFIG, INIT, ROUND, KS (44_cipher.md). -/

namespace Sys2Proof.Machine

/-- The body of CONFIG (R235): the three checks, then the configuration and UNCONFIGURED, from any state (R236). -/
def configBody (lvl m6 : Nat) (s : State) : Except ErrCode State :=
  if ¬ ModulusOk s.prime then .error .invalidParameter
  else if lvl > 1 then .error .invalidParameter
  else if m6 > 36 then .error .invalidParameter
  else .ok (s.loadConfig s.prime (roundsOfLevel lvl) (BitVec.ofNat 6 m6))

/-- CONFIG (R235). -/
def execConfig (lvl m6 : Nat) (s : State) : Host.Outcome State Fault Refusal :=
  settle (configBody lvl m6 s) s

/-- The body of INIT (R240), its checks those of R238 and R239 in that order. -/
def initBody (vs1 : VReg) (len : Nat) (s : State) : Except ErrCode State :=
  if s.dev = .noparam then .error .notConstructed
  else if len ≠ 36 then .error .invalidInput
  else if ¬ AllCanonical (s.vec vs1) s.p then .error .invalidInput
  else if s.nonceLen.toNat > Config.NMAX then .error .invalidInput
  else .ok (s.loadKey (s.vec vs1) s.nonceLen.toNat)

/-- INIT (R240). -/
def execInit (vs1 : VReg) (len : Nat) (s : State) : Host.Outcome State Fault Refusal :=
  settle (initBody vs1 len s) s

/-- RT_p(s, rk): substitution, then diffusion, then key addition (R242). -/
def roundTransform (c : Params) (p : Elem) (s rk : Vec) : Vec := addVec p (linearLayer c p (sboxLayer p s)) rk

/-- The body of ROUND (R243). -/
def roundBody (c : Params) (vd vs1 vs2 : VReg) (len : Nat) (s : State) : Except ErrCode State :=
  if s.dev = .noparam then .error .notConstructed
  else if len ≠ 36 then .error .invalidInput
  else if ¬ (AllCanonical (s.vec vs1) s.p ∧ AllCanonical (s.vec vs2) s.p) then .error .invalidInput
  else .ok (s.setVec vd (roundTransform c s.p (s.vec vs1) (s.vec vs2)))

/-- ROUND (R243). -/
def execRound (vd vs1 vs2 : VReg) (len : Nat) (s : State) : Host.Outcome State Fault Refusal :=
  settle (roundBody params vd vs1 vs2 len s) s

/-! ## The keystream (R244 to R250) -/

/-- CV_j (R245). -/
def counterVector (p : Elem) (j : Nat) : Vec := tabulate fun i => elemMod ((i.val : Int) + 1 + j) p

/-- The round key of round r of block j: KEY times the round constant, elementwise (R246). -/
def roundKey (c : Params) (s : State) (r j : Nat) : Option Vec :=
  match roundConstant c s.nonceBytes r j s.p with
  | none => none
  | some rc => some (mulVec s.p s.key rc)

/-- The sequencer at the start of block j: the counter vector, before whitening (R49, R246 step 1). -/
def Sequencer.start (s : State) (j : Nat) : Sequencer :=
  { j := j, r := 0, phase := .whiten, work := counterVector s.p j }

/-- The phase after the key of round r is mixed in, of R rounds (R246 step 3). -/
def phaseAfter (r rounds : Nat) : Phase := if r < rounds then .round else .finalDiffusion

/-- One move of the sequencer (R49, R246 steps 2 to 4), or `none` where the hash fails. -/
def Sequencer.advance (c : Params) (s : State) (q : Sequencer) : Option Sequencer :=
  match q.phase with
  | .whiten =>
    match roundKey c s 0 q.j with
    | none => none
    | some rk => some { q with phase := phaseAfter 0 s.rounds.toNat, work := addVec s.p q.work rk }
  | .round =>
    match roundKey c s (q.r + 1) q.j with
    | none => none
    | some rk =>
      some { q with
        r := q.r + 1
        phase := phaseAfter (q.r + 1) s.rounds.toNat
        work := roundTransform c s.p q.work rk }
  | .finalDiffusion => some { q with phase := .truncate, work := linearLayer c s.p q.work }
  | .truncate => some q

/-- A number of moves of the sequencer. -/
def Sequencer.run (c : Params) (s : State) : Nat → Sequencer → Option Sequencer
  | 0, q => some q
  | n + 1, q =>
    match q.advance c s with
    | none => none
    | some q' => Sequencer.run c s n q'

/-- Block j run to its end: whitening, R rounds and the final diffusion are R + 2 moves (R246, R319). -/
def runBlock (c : Params) (s : State) (j : Nat) : Option Sequencer :=
  Sequencer.run c s (s.rounds.toNat + 2) (Sequencer.start s j)

/-- Blocks j, j+1, ... up to the given number of them, in increasing j, or `none` if the hash fails in one (R247). -/
def runBlocks (c : Params) (s : State) : (n j : Nat) → Option (List Sequencer)
  | 0, _ => some []
  | n + 1, j =>
    match runBlock c s j with
    | none => none
    | some q =>
      match runBlocks c s n (j + 1) with
      | none => none
      | some qs => some (q :: qs)

/-- Truncation: the first m elements are dropped (R246 step 4). -/
def Sequencer.emit (m : Nat) (q : Sequencer) : List Elem := q.work.toList.drop m

/-- The keystream of a number of finished blocks: block-major, element-minor (R249). -/
def keystream (m : Nat) (qs : List Sequencer) : List Elem := qs.flatMap (Sequencer.emit m)

/-- The body of KS (R248). The sequencer left is that of the last block, if there was one (R49). -/
def ksBody (c : Params) (xa : XReg) (s : State) : Except ErrCode State :=
  if s.dev = .noparam then .error .notConstructed
  else if s.dev = .unconfigured then .error .notInitialized
  else if ¬ InRange32 (s.scalar xa) then .error .invalidInput
  else if keystreamLength (s.scalar xa).toNat s.trunc.toNat > Config.OUT_DEPTH then .error .invalidInput
  else
    hashed (runBlocks c s (s.scalar xa).toNat 0) fun qs =>
      s.storeKeystream (keystream s.trunc.toNat qs) qs.getLast?

/-- KS (R248). -/
def execKs (xa : XReg) (s : State) : Host.Outcome State Fault Refusal :=
  settle (ksBody params xa s) s

/-! ## The block function as R246 writes it -/

/-- Rounds r+1, ..., r+n of block j (R246 step 3). -/
def blockRounds (c : Params) (s : State) (j : Nat) : (n r : Nat) → Vec → Option Vec
  | 0, _, w => some w
  | n + 1, r, w =>
    match roundKey c s (r + 1) j with
    | none => none
    | some rk => blockRounds c s j n (r + 1) (roundTransform c s.p w rk)

/-- s_j of R249: the state of block j after the final linear pass. -/
def blockState (c : Params) (s : State) (j : Nat) : Option Vec :=
  match roundKey c s 0 j with
  | none => none
  | some rk =>
    match blockRounds c s j s.rounds.toNat 0 (addVec s.p (counterVector s.p j) rk) with
    | none => none
    | some w => some (linearLayer c s.p w)

/-- KB(j): the truncated keystream block, or `none` for PrimitiveFailure (R246). -/
def keystreamBlock (c : Params) (s : State) (j : Nat) : Option (List Elem) :=
  match blockState c s j with
  | none => none
  | some w => some (w.toList.drop s.trunc.toNat)

end Sys2Proof.Machine
end

