-- ==== Sys2Proof/Machine/Dispatch.lean ====
section
/-! DEFINITION. One arm per command: the body its rule gives, run at the completion step (R311). -/

namespace Sys2Proof.Machine

def exec (i : Instr) (s : State) : Host.Outcome State Fault Refusal :=
  match i with
  | .sbox vd vs1 len => Sys2Proof.Machine.execSbox vd vs1 len s
  | .sboxl vd vs1 len => Sys2Proof.Machine.execSboxl vd vs1 len s
  | .isperm xd => Sys2Proof.Machine.execIsperm xd s
  | .diffu xd => Sys2Proof.Machine.execDiffu xd s
  | .lin vd vs1 len => Sys2Proof.Machine.execLin vd vs1 len s
  | .lbn xd => Sys2Proof.Machine.execLbn xd s
  | .dbn xd => Sys2Proof.Machine.execDbn xd s
  | .rc vd xa xb => Sys2Proof.Machine.execRc vd xa xb s
  | .rkey vd vs1 vs2 len => Sys2Proof.Machine.execRkey vd vs1 vs2 len s
  | .ark vd vs1 vs2 len => Sys2Proof.Machine.execArk vd vs1 vs2 len s
  | .config lvl m6 => Sys2Proof.Machine.execConfig lvl m6 s
  | .init vs1 len => Sys2Proof.Machine.execInit vs1 len s
  | .round vd vs1 vs2 len => Sys2Proof.Machine.execRound vd vs1 vs2 len s
  | .ks xa => Sys2Proof.Machine.execKs xa s

end Sys2Proof.Machine
end

