-- ==== Sys2Proof/Machine/Engine.lean ====
section
/-! DEFINITION. The engine's completion step (70_reset_and_hazards.md rule R311). -/

namespace Sys2Proof.Machine

/-- BUSY <- 0 after a body that went on; a stop stays a stop. -/
def finishOutcome (o : Host.Outcome State Fault Refusal) : Host.Outcome State Fault Refusal :=
  match o with
  | .next t => .next t.finish
  | .fault r => .fault r
  | .refused r => .refused r

/-- complete() of R311 for the pending word w: decode first, then the body, then BUSY <- 0. -/
def complete (w : Word) (s : State) : Host.Outcome State Fault Refusal :=
  match decode w with
  | .error _ => .next (s.raise .illegalCommand).finish
  | .ok i => finishOutcome (exec i s)

/-- The engine's turn: the completion step if a command is pending, else nothing (R30, R289). -/
def engineTurn (s : State) : Host.Outcome State Fault Refusal :=
  match s.pend with
  | none => .next s
  | some w => complete w s

/-- The command whose bits are w, of which nbits are given and the rest are 0 (R100). -/
def fetchWord (nbits w : Nat) : Word := BitVec.ofNat 32 (w % 2 ^ nbits)

end Sys2Proof.Machine
end

