-- ==== Sys2Proof/Machine/Step.lean ====
section
/-! DEFINITION. One step of the machine: the next turn of the one total order of R85. -/

namespace Sys2Proof.Machine

/-- One step. The turns of the state say who moves next (R30, R85). When no host access is to come, the engine
moves: it completes the pending command (R311), and with none pending the CORE is idle and keeps its state (R289). -/
def step (s : State) : Host.Outcome State Fault Refusal :=
  match s.turns with
  | [] => engineTurn s
  | .engine :: ts => engineTurn (s.setTurns ts)
  | .read a :: ts => .next (hostRead a (s.setTurns ts))
  | .write a n :: ts => .next (hostWrite a n (s.setTurns ts))
  | .reset :: ts => .next (takeReset (s.setTurns ts))

/-- The CORE fetches nothing: a command runs when it is pending and the engine has the turn (R32, R311). So the command
is placed in PEND, as an accepted write of CMD leaves it (R310), and the engine moves next. Log entry 3. -/
def State.withFetchWord (s : State) (nbits w : Nat) : State :=
  (s.accept (fetchWord nbits w)).setTurns (.engine :: s.turns)

end Sys2Proof.Machine
end

