-- ==== Sys2Proof/Machine/HostProgram.lean ====
section
/-! DEFINITION. The host operations of 30_encoding.md rules R114 and R115 as the turns they expand to. The host's own
control flow is outside the CORE (R32, R117). -/

namespace Sys2Proof.Machine.Pseudo

/-- The LEN an assembler line takes when it names none (R114). -/
def defaultLen : Mnemonic → Nat
  | .SBOX => 3
  | _ => 36

/-- `wr ADDR, value` (R115). -/
def wr (a : Word) (n : Nat) : List Turn := [.write a n]

/-- `rd ADDR` (R115). -/
def rd (a : Word) : List Turn := [.read a]

/-- `cmd WORD` (R115). -/
def cmd (w : Word) : List Turn := wr 0 w.toNat

/-- `wait` (R115), in the schedule where the engine completes after the given number of polls that read BUSY = 1.
Every schedule of R311 is one of these. -/
def wait (polls : Nat) : List Turn := List.replicate polls (.read 1) ++ [.engine, .read 1]

/-- `do INSN` (R115). -/
def run (i : Instr) (polls : Nat) : List Turn := cmd (encode i) ++ wait polls

/-- `vset vN, [e0, ..., e35]` (R115). -/
def vset (r : VReg) (e : Vec) : List Turn :=
  List.ofFn fun k : Fin 36 => .write (BitVec.ofNat 32 (0x100 + 64 * r.val + k.val)) e[k].toNat

/-- `vset3 vN, [e0, e1, e2]` (R115). -/
def vset3 (r : VReg) (e0 e1 e2 : Elem) : List Turn :=
  [.write (BitVec.ofNat 32 (0x100 + 64 * r.val)) e0.toNat,
   .write (BitVec.ofNat 32 (0x100 + 64 * r.val + 1)) e1.toNat,
   .write (BitVec.ofNat 32 (0x100 + 64 * r.val + 2)) e2.toNat]

/-- `xset xN, v` (R115). -/
def xset (r : XReg) (n : Nat) : List Turn := wr (BitVec.ofNat 32 (0x10 + r.val)) n

/-- `pset v` (R115). -/
def pset (n : Nat) : List Turn := wr 2 n

/-- The bytes of a nonce written from NONCE_BUF[t] on. -/
def nonceBytesFrom (t : Nat) : List Byte → List Turn
  | [] => []
  | b :: bs => .write (BitVec.ofNat 32 (0x1000 + t)) b.toNat :: nonceBytesFrom (t + 1) bs

/-- `nonce [b0, ..., b(L-1)]` (R115). -/
def nonce (bs : List Byte) : List Turn := nonceBytesFrom 0 bs ++ wr 6 bs.length

/-- `err?` (R115): the read, and the field of the value it returns. -/
def errRead : List Turn := rd 1

/-- The ERR field of a value read from STATUS (R42, R115). -/
def errOf (reply : Nat) : Nat := reply / 16 % 16

/-- `ovrclr` (R115). -/
def ovrclr : List Turn := wr 1 0x100

end Sys2Proof.Machine.Pseudo
end

