-- ==== Sys2Proof/Safety.lean ====
section
/-! DEFINITION. What a safe run of YuS-CORE is, in the terms the claims use. -/

namespace Sys2Proof.Machine

/-- The outcome is a next state: the machine has not stopped (R270, R311). -/
def Continues (o : Host.Outcome State Fault Refusal) : Prop := ∃ t, o = .next t

/-- The states that a run can be in, as far as the registers go. Each clause is a rule of the spec. -/
structure Inv (s : State) : Prop where
  /-- With a configuration loaded, P passes the modulus check (R37, R232). -/
  modulus : s.dev ≠ .noparam → ModulusOk s.p
  /-- With a configuration loaded, ROUNDS is 5 or 6 (R38). -/
  rounds : s.dev ≠ .noparam → s.rounds = 5 ∨ s.rounds = 6
  /-- TRUNC is at most 36 (R39). -/
  trunc : s.trunc.toNat ≤ 36
  /-- Before the first successful CONFIG, P, ROUNDS, TRUNC and OUT_LEN hold their reset value 0 (R37, R38, R39, R43). -/
  unloaded : s.dev = .noparam → s.p = 0 ∧ s.rounds = 0 ∧ s.trunc = 0 ∧ s.outLen = 0
  /-- In READY every element of KEY is canonical (R46). -/
  key : s.dev = .ready → AllCanonical s.key s.p
  /-- OUT keeps its canonical form. -/
  out : s.out.wf
  /-- OUT_LEN never exceeds the capacity of OUT (R43, R44). -/
  outLen : s.outLen.toNat ≤ Config.OUT_DEPTH
  /-- The sequencer state exists only inside a completion step (R49). -/
  seq : s.seq = none

/-! ## Frames: what stays as it was. Each is read register by register, element by element. -/

/-- PEND, OVR, the sequencer state and the model's own fields. -/
def SameBus (s t : State) : Prop :=
  t.pend = s.pend ∧ t.ovr = s.ovr ∧ t.seq = s.seq ∧ t.turns = s.turns ∧ t.replies = s.replies ∧ t.draws = s.draws

/-- The registers only the host writes: PRIME, NONCE_LEN, NONCE_BUF (R36, R40, R41). -/
def SameHostRegisters (s t : State) : Prop :=
  t.prime = s.prime ∧ t.nonceLen = s.nonceLen ∧ t.nonceBuf = s.nonceBuf

/-- The configuration and the device state: P, ROUNDS, TRUNC, STATE (R31, R37, R38, R39). -/
def SameConfig (s t : State) : Prop :=
  t.p = s.p ∧ t.rounds = s.rounds ∧ t.trunc = s.trunc ∧ t.dev = s.dev

/-- The internal key and nonce: KEY, NONCE, NL (R46, R47). -/
def SameKey (s t : State) : Prop := t.key = s.key ∧ t.nonce = s.nonce ∧ t.nl = s.nl

/-- OUT_LEN and every element of OUT (R43, R44). -/
def SameOut (s t : State) : Prop := t.outLen = s.outLen ∧ ∀ n, t.out.read n = s.out.read n

/-- Every element of V0..V3 (R33). -/
def SameVectors (s t : State) : Prop := ∀ r : VReg, t.vec r = s.vec r

/-- Every element of V0..V3 but those of one register. -/
def SameVectorsBut (vd : VReg) (s t : State) : Prop := ∀ r : VReg, r ≠ vd → t.vec r = s.vec r

/-- X0..X3 (R34). -/
def SameScalars (s t : State) : Prop := ∀ r : XReg, t.scalar r = s.scalar r

/-- X0..X3 but one register. -/
def SameScalarsBut (xd : XReg) (s t : State) : Prop := ∀ r : XReg, r ≠ xd → t.scalar r = s.scalar r

/-- The frame of a command whose destination is V[vd]: everything else but ERR. -/
def VectorFrame (vd : VReg) (s t : State) : Prop :=
  SameBus s t ∧ SameHostRegisters s t ∧ SameConfig s t ∧ SameKey s t ∧ SameOut s t ∧ SameScalars s t ∧
    SameVectorsBut vd s t

/-- The frame of a command whose destination is X[xd]: everything else but ERR. -/
def ScalarFrame (xd : XReg) (s t : State) : Prop :=
  SameBus s t ∧ SameHostRegisters s t ∧ SameConfig s t ∧ SameKey s t ∧ SameOut s t ∧ SameVectors s t ∧
    SameScalarsBut xd s t

/-- A run of k steps of the machine from s to t. -/
def Runs (k : Nat) (s t : State) : Prop := Host.Core.run Sys2Proof.core k s = .next t

end Sys2Proof.Machine
end

