-- ==== Sys2Proof/Certificates/Slice0/Obligations.lean ====
section
/-! DEFINITION. The statements for the provers. The auxiliary definitions under Sys2Proof.Claims write down the spec's
own tables and conditions, apart from the model's. -/

namespace Sys2Proof.Claims

/-- The rows of the opcode table: mnemonic, match, mask (R102, R109, opcode_table.json). -/
def opcodeRows : List (Mnemonic × Word × Word) :=
  [(.SBOX, 0x10000000, 0xFF0C0FFF), (.SBOXL, 0x11000000, 0xFF0C0FFF), (.ISPERM, 0x12000000, 0xFFFFFF3F),
   (.DIFFU, 0x13000000, 0xFFFFFF3F), (.LIN, 0x20000000, 0xFF0C0FFF), (.LBN, 0x21000000, 0xFFFFFF3F),
   (.DBN, 0x22000000, 0xFFFFFF3F), (.RC, 0x30000000, 0xFF3FF0FF), (.RKEY, 0x31000000, 0xFF000FFF),
   (.ARK, 0x32000000, 0xFF000FFF), (.CONFIG, 0x40000000, 0xFF3C0FFF), (.INIT, 0x41000000, 0xFFCC0FFF),
   (.ROUND, 0x42000000, 0xFF000FFF), (.KS, 0x43000000, 0xFFFFF3FF)]

/-- The commands that need the modulus: all but CONFIG, LBN and DBN (R276). -/
def NeedsModulus : Instr → Prop
  | .config _ _ => False
  | .lbn _ => False
  | .dbn _ => False
  | _ => True

/-- The commands that need a nonce or key: RC and KS (R274). -/
def NeedsKey : Instr → Prop
  | .rc _ _ _ => True
  | .ks _ => True
  | _ => False

/-- Some element of the vector is not below p (R273 (b)). -/
def NonCanonical (e : Vec) (p : Elem) : Prop := ∃ k : Fin 36, p.toNat ≤ e[k].toNat

/-- The four cases of InvalidInput, command by command (R273, with the lengths of R105). -/
def InputError (s : Machine.State) : Instr → Prop
  | .sbox _ vs1 len => len ≠ 3 ∨ ∃ k : Fin 36, k.val < 3 ∧ s.p.toNat ≤ (s.vec vs1)[k].toNat
  | .sboxl _ vs1 len => len ≠ 36 ∨ NonCanonical (s.vec vs1) s.p
  | .isperm _ => False
  | .diffu _ => False
  | .lin _ vs1 len => len ≠ 36 ∨ NonCanonical (s.vec vs1) s.p
  | .lbn _ => False
  | .dbn _ => False
  | .rc _ xa xb => 2 ^ 32 ≤ (s.scalar xa).toNat ∨ 2 ^ 32 ≤ (s.scalar xb).toNat
  | .rkey _ vs1 vs2 len => len ≠ 36 ∨ NonCanonical (s.vec vs1) s.p ∨ NonCanonical (s.vec vs2) s.p
  | .ark _ vs1 vs2 len => len ≠ 36 ∨ NonCanonical (s.vec vs1) s.p ∨ NonCanonical (s.vec vs2) s.p
  | .config _ _ => False
  | .init vs1 len => len ≠ 36 ∨ NonCanonical (s.vec vs1) s.p ∨ 64 < s.nonceLen.toNat
  | .round _ vs1 vs2 len => len ≠ 36 ∨ NonCanonical (s.vec vs1) s.p ∨ NonCanonical (s.vec vs2) s.p
  | .ks xa => 2 ^ 32 ≤ (s.scalar xa).toNat ∨ 4096 < (s.scalar xa).toNat * (36 - s.trunc.toNat)

/-- The commands that write a vector register (R33). -/
def WritesVector : Instr → Prop
  | .sbox _ _ _ => True
  | .sboxl _ _ _ => True
  | .lin _ _ _ => True
  | .rc _ _ _ => True
  | .rkey _ _ _ _ => True
  | .ark _ _ _ _ => True
  | .round _ _ _ _ => True
  | _ => False

/-- The elements of V a successful command writes: all 36 of its destination, and elements 0..2 for SBOX (R142, R144, R172,
R204, R205, R206, R243). -/
def WritesElement (i : Instr) (r : VReg) (k : Fin 36) : Prop :=
  match i with
  | .sbox vd _ _ => r = vd ∧ k.val < 3
  | .sboxl vd _ _ => r = vd
  | .isperm _ => False
  | .diffu _ => False
  | .lin vd _ _ => r = vd
  | .lbn _ => False
  | .dbn _ => False
  | .rc vd _ _ => r = vd
  | .rkey vd _ _ _ => r = vd
  | .ark vd _ _ _ => r = vd
  | .config _ _ => False
  | .init _ _ => False
  | .round vd _ _ _ => r = vd
  | .ks _ => False

/-- The commands that write a scalar register (R34). -/
def WritesScalar : Instr → Prop
  | .isperm _ => True
  | .diffu _ => True
  | .lbn _ => True
  | .dbn _ => True
  | _ => False

/-- The engine has the turn: it is next in the order, or no host access is to come. `ts` are the turns after it. -/
def EngineNext (s : Machine.State) (ts : List Machine.Turn) : Prop :=
  s.turns = .engine :: ts ∨ s.turns = [] ∧ ts = []

/-- The engine is about to complete the command i. -/
def Completing (s : Machine.State) (i : Instr) : Prop :=
  ∃ w ts, s.pend = some w ∧ decode w = .ok i ∧ EngineNext s ts

/-- The number of low bits a host write stores at an address that is not CMD or STATUS, or `none` where a write is
ignored (R40, R73 to R75). -/
def storedBits (a : Word) : Option Nat :=
  if a.toNat = 2 then some 64
  else if a.toNat = 6 then some 16
  else if 0x10 ≤ a.toNat ∧ a.toNat ≤ 0x13 then some 128
  else if 0x100 ≤ a.toNat ∧ a.toNat ≤ 0x1FF ∧ (a.toNat - 0x100) % 64 ≤ 35 then some 64
  else if 0x1000 ≤ a.toNat ∧ a.toNat ≤ 0x103F then some 8
  else none

/-- The addresses that select something (R73). -/
def Mapped (a : Word) : Prop :=
  a.toNat ≤ 7 ∨ 0x10 ≤ a.toNat ∧ a.toNat ≤ 0x13 ∨
    (∃ v k, v ≤ 3 ∧ k ≤ 35 ∧ a.toNat = 0x100 + 64 * v + k) ∨
    0x1000 ≤ a.toNat ∧ a.toNat ≤ 0x103F ∨ 0x100000 ≤ a.toNat ∧ a.toNat ≤ 0x100FFF

/-- The encoding of STATE (R31). -/
def stateCode : Machine.DevState → Nat
  | .noparam => 0
  | .unconfigured => 1
  | .ready => 2

/-- The code of ERR (R271). -/
def errorCode : Machine.ErrCode → Nat
  | .ok => 0
  | .invalidParameter => 1
  | .invalidInput => 2
  | .notInitialized => 3
  | .primitiveFailure => 4
  | .notConstructed => 5
  | .illegalCommand => 6

/-- The big-endian 4-byte encoding of n (R15). -/
def be32 (n : Nat) : List Byte :=
  [BitVec.ofNat 8 (n / 16777216), BitVec.ofNat 8 (n / 65536), BitVec.ofNat 8 (n / 256), BitVec.ofNat 8 n]

/-- Chunk k of a 288-byte output: the sum over t of H[8k + t] * 2^(8 * (7 - t)) (R203). -/
def chunkValue (h : List Byte) (k : Nat) : Nat :=
  ∑ t : Fin 8, (h.getD (8 * k + t.val) 0).toNat * 2 ^ (8 * (7 - t.val))

/-- A round-constant element: the residue, with 0 forced to 1 (R203). -/
def constantOf (c p : Nat) : Nat := if c % p = 0 then 1 else c % p

/-- What SBOX answers for a triple, on numbers (R141). -/
def SboxImage (p : Nat) (x0 x1 x2 y0 y1 y2 : Nat) : Prop :=
  y0 = x0 ∧ (y1 : Int) = ((x0 : Int) * x2 + x1) % p ∧ (y2 : Int) = (-(x0 : Int) * x1 + (x0 : Int) * x2 + x2) % p

/-- Two states agree on everything but KEY, NONCE and NL. -/
def AgreeOutsideKey (s t : Machine.State) : Prop :=
  t = { s with key := t.key, nonce := t.nonce, nl := t.nl }

end Sys2Proof.Claims

open Sys2Proof Sys2Proof.Machine Sys2Proof.Claims

/-! ## Encoding (30_encoding.md) -/

/-- R116: each of the fifteen worked words decodes to the command it is listed for. -/
def Obligations.WorkedEncodingsDecode : Prop :=
  decode 0x10403000 = .ok (.sbox 1 0 3) ∧ decode 0x11024000 = .ok (.sboxl 0 0 36) ∧
  decode 0x20924000 = .ok (.lin 2 1 36) ∧ decode 0x30400100 = .ok (.rc 1 0 1) ∧
  decode 0x31B64000 = .ok (.rkey 2 3 1 36) ∧ decode 0x320A4000 = .ok (.ark 0 0 2 36) ∧
  decode 0x420A4000 = .ok (.round 0 0 2 36) ∧ decode 0x4000C000 = .ok (.config 0 12) ∧
  decode 0x40400000 = .ok (.config 1 0) ∧ decode 0x41324000 = .ok (.init 3 36) ∧
  decode 0x43000800 = .ok (.ks 2) ∧ decode 0x12000000 = .ok (.isperm 0) ∧
  decode 0x13000040 = .ok (.diffu 1) ∧ decode 0x21000080 = .ok (.lbn 2) ∧
  decode 0x220000C0 = .ok (.dbn 3)

/-- R101, R113, R114: decoding the word of a well-formed command gives it back, with every operand. -/
def Obligations.DecodeOfEncodeIsIdentity : Prop :=
  ∀ i : Instr, WellFormed i → decode (encode i) = .ok i

/-- R101, R112, R113: a word that decodes is the word of the command it decodes to, which is well formed. -/
def Obligations.EncodeOfDecodeIsIdentity : Prop :=
  ∀ (w : Word) (i : Instr), decode w = .ok i → WellFormed i ∧ encode i = w

/-- R102, R109: a word selects a row of the opcode table exactly when (w AND mask) = match. -/
def Obligations.DecodeSelectsByMaskAndMatch : Prop :=
  ∀ row ∈ opcodeRows, ∀ w : Word,
    (∃ i, decode w = .ok i ∧ i.mnemonic = row.1) ↔ w &&& row.2.2 = row.2.1

/-- R110, R111, R113: decode tells a reserved opcode from a nonzero must-be-zero bit, and is total. -/
def Obligations.DecodeRejectsByName : Prop :=
  ∀ w : Word,
    (decode w = .error .reservedOpcode ↔ ∀ row ∈ opcodeRows, w.toNat / 2 ^ 24 ≠ row.2.1.toNat / 2 ^ 24) ∧
    (decode w = .error .mustBeZero ↔
      ∃ row ∈ opcodeRows, w.toNat / 2 ^ 24 = row.2.1.toNat / 2 ^ 24 ∧ w &&& row.2.2 ≠ row.2.1)

/-! ## The step, the busy protocol and reset (20_memory.md, 70_reset_and_hazards.md) -/

/-- R311: when the engine has the turn and the pending word decodes to i, the step is i's body and then BUSY <- 0. -/
def Obligations.StepRunsTheDecodedCommand : Prop :=
  ∀ (s : State) (ts : List Turn) (w : Word) (i : Instr),
    EngineNext s ts → s.pend = some w → decode w = .ok i →
    step s = finishOutcome (exec i (s.setTurns ts))

/-- R277: a word that no row of the opcode table selects completes with IllegalCommand (6). It changes ERR and, with
its acceptance and completion, BUSY, and nothing else. -/
def Obligations.IllegalWordChangesOnlyErrAndBusy : Prop :=
  ∀ (s : State) (ts : List Turn) (w : Word),
    (∀ row ∈ opcodeRows, w &&& row.2.2 ≠ row.2.1) → s.seq = none →
    (EngineNext s ts → s.pend = some w →
      step s = .next { s with turns := ts, pend := none, err := .illegalCommand }) ∧
    (s.turns = .write 0 w.toNat :: ts → s.pend = none →
      step s = .next { s with turns := ts, pend := some w }) ∧
    ErrCode.illegalCommand.code = 6

/-- R270, R311: no state stops the machine. There is no fault and no refusal. -/
def Obligations.EveryStepContinues : Prop :=
  ∀ s : State, Continues (step s)

/-- R30, R289: with no command pending the engine's turn changes nothing, and an idle CORE keeps its state. -/
def Obligations.IdleCoreKeepsItsState : Prop :=
  ∀ (s : State) (ts : List Turn), s.pend = none → EngineNext s ts → step s = .next { s with turns := ts }

/-- R37, R38, R39, R46, R43, R49: the reset state meets the invariant. It rests on the reset values of log entry 2 only
for OUT, which lists nothing. -/
def Obligations.ResetStateMeetsInvariant : Prop := Inv State.reset

/-- Every step, from every state that meets the invariant, keeps it. -/
def Obligations.StepKeepsInvariant : Prop :=
  ∀ s t : State, Inv s → step s = .next t → Inv t

/-- R311: BUSY returns to 0 whatever the turns to come, after at most one step more than there are. Where no reset is among
them, it returns by completion: the command stays pending, with its operands and every register but OVR as they were
(R313), until the engine has the turn, and that step is its completion. That the engine moves when no turn is left is the
model's form of fairness (log entry 3). -/
def Obligations.AcceptedCommandCompletes : Prop :=
  ∀ (s : State) (w : Word), s.pend = some w →
    (∃ k t, k ≤ s.turns.length + 1 ∧ Runs k s t ∧ t.busy = false) ∧
    ((∀ u ∈ s.turns, u ≠ .reset) →
      ∃ k u t ts, k ≤ s.turns.length ∧ Runs k s u ∧
        u = { s with turns := u.turns, ovr := u.ovr, replies := u.replies, draws := u.draws } ∧
        EngineNext u ts ∧ step u = complete w (u.setTurns ts) ∧ step u = .next t ∧ t.busy = false)

/-- R300: what every reset leaves, in the reset state and after the reset input in any state. -/
def Obligations.ResetLeavesSpecifiedValues : Prop :=
  ∀ (s t : State) (ts : List Turn),
    t = State.reset ∨ s.turns = .reset :: ts ∧ step s = .next t →
    t.busy = false ∧ t.pend = none ∧ t.dev = .noparam ∧ t.err = .ok ∧ t.ovr = false ∧ t.p = 0 ∧ t.rounds = 0 ∧
      t.trunc = 0 ∧ t.nonceLen = 0 ∧ t.outLen = 0 ∧ t.seq = none ∧ idleRead t (target 0) = 0

/-- R302: reset while BUSY = 1 abandons the pending command. None of its effects are written: what the reset leaves
does not depend on whether a command was pending, nor on which, and it is what R300 says. Reset is the only way to cancel
a command: a pending command goes away by reset or in the engine's turn. -/
def Obligations.ResetAbandonsThePendingCommand : Prop :=
  (∀ (s : State) (ts : List Turn) (w : Word), s.turns = .reset :: ts → s.pend = some w →
    step s = step { s with pend := none } ∧
    ∃ t, step s = .next t ∧ t.busy = false ∧ t.pend = none ∧ t.seq = none ∧ t.dev = .noparam ∧ t.err = .ok ∧
      t.ovr = false ∧ t.p = 0 ∧ t.rounds = 0 ∧ t.trunc = 0 ∧ t.nonceLen = 0 ∧ t.outLen = 0) ∧
  ∀ (s t : State) (w : Word), s.pend = some w → step s = .next t → t.pend ≠ some w →
    ∃ ts, s.turns = .reset :: ts ∨ EngineNext s ts

/-- R310: a host write to CMD while BUSY = 0 sets PEND <- w and BUSY <- 1, and writes nothing else. The word w is the low 32
bits of the value written (R72), whatever the value. -/
def Obligations.CommandWriteIsAccepted : Prop :=
  ∀ (s : State) (ts : List Turn) (n : Nat), s.turns = .write 0 n :: ts → s.busy = false →
    ∃ t, step s = .next t ∧ t = { s with turns := ts, pend := some (BitVec.ofNat 32 n) } ∧ t.busy = true

/-- R313: every host write while BUSY = 1 is ignored and sets OVR, whatever its address, and OVR goes from 1 to 0 only
by a host write to STATUS with bit 8 = 1 while BUSY = 0, or by reset. -/
def Obligations.BusyWriteOnlySetsOverrun : Prop :=
  (∀ (s : State) (ts : List Turn) (a : Word) (n : Nat), s.turns = .write a n :: ts → s.busy = true →
    step s = .next { s with turns := ts, ovr := true }) ∧
  ∀ s t : State, step s = .next t → s.ovr = true → t.ovr = false →
    (∃ ts, s.turns = .reset :: ts) ∨
      s.busy = false ∧ ∃ n ts, s.turns = .write 1 n :: ts ∧ n.testBit 8 = true

/-- R42: a host write to STATUS while BUSY = 0 clears OVR when its bit 8 is 1, and changes nothing else. -/
def Obligations.StatusWriteClearsOverrunOnly : Prop :=
  ∀ (s : State) (ts : List Turn) (n : Nat), s.turns = .write 1 n :: ts → s.busy = false →
    step s = .next { s with turns := ts, ovr := s.ovr && !n.testBit 8 }

/-- R75: a host write to P, ROUNDS, TRUNC, OUT_LEN or any OUT[n] while BUSY = 0 is ignored. R74: so is one to a
reserved address. -/
def Obligations.ReservedAndReadOnlyWritesAreIgnored : Prop :=
  ∀ (s : State) (ts : List Turn) (a : Word) (n : Nat), s.turns = .write a n :: ts → s.busy = false →
    (a.toNat = 3 ∨ a.toNat = 4 ∨ a.toNat = 5 ∨ a.toNat = 7 ∨ 0x100000 ≤ a.toNat ∧ a.toNat < 0x100000 + 4096 ∨
      ¬ Mapped a) →
    step s = .next { s with turns := ts }

/-- R42, R73, R74: what a host read of each address returns while BUSY = 0, STATUS included, and that it changes nothing
(R82). -/
def Obligations.IdleReadsFollowTheAddressMap : Prop :=
  ∀ (s : State) (ts : List Turn) (a : Word), s.turns = .read a :: ts → s.busy = false →
    ∃ n, step s = .next { s with turns := ts, replies := n :: s.replies } ∧
      (a.toNat = 0 → n = 0) ∧
      (a.toNat = 1 → n = 2 * stateCode s.dev + 16 * errorCode s.err + (if s.ovr then 256 else 0)) ∧
      (a.toNat = 2 → n = s.prime.toNat) ∧ (a.toNat = 3 → n = s.p.toNat) ∧
      (a.toNat = 4 → n = s.rounds.toNat) ∧ (a.toNat = 5 → n = s.trunc.toNat) ∧
      (a.toNat = 6 → n = s.nonceLen.toNat) ∧ (a.toNat = 7 → n = s.outLen.toNat) ∧
      (∀ x : XReg, a.toNat = 0x10 + x.val → n = (s.scalar x).toNat) ∧
      (∀ (v : VReg) (k : Fin 36), a.toNat = 0x100 + 64 * v.val + k.val → n = (s.vec v)[k].toNat) ∧
      (∀ b : Fin 64, a.toNat = 0x1000 + b.val → n = s.nonceBuf[b].toNat) ∧
      (∀ k, k < 4096 → a.toNat = 0x100000 + k → n = (s.out.read k).toNat) ∧ (¬ Mapped a → n = 0)

/-- R42: the fields of STATUS that a host read returns while BUSY = 0, with the encodings of R31 and R271. -/
def Obligations.IdleStatusReadShowsItsFields : Prop :=
  ∀ (s : State) (ts : List Turn), s.turns = .read 1 :: ts → s.busy = false →
    ∃ n, step s = .next { s with turns := ts, replies := n :: s.replies } ∧ n % 2 = 0 ∧
      n / 2 % 4 = stateCode s.dev ∧ n / 8 % 2 = 0 ∧ n / 16 % 16 = errorCode s.err ∧
      n / 256 = (if s.ovr then 1 else 0)

/-- R312: a host read while BUSY = 1. STATUS has BUSY = 1, OVR right and its reserved bits 0; CMD and reserved addresses
read 0; any other address returns a value of its width, which is a free value. The registers do not change. -/
def Obligations.BusyReadsKeepBusyAndOverrun : Prop :=
  ∀ (s : State) (ts : List Turn) (a : Word), s.turns = .read a :: ts → s.busy = true →
    ∃ n, step s = .next { s with turns := ts, replies := n :: s.replies, draws := s.draws + 1 } ∧
      (a.toNat = 1 → n % 2 = 1 ∧ n / 8 % 2 = 0 ∧ n / 256 = (if s.ovr then 1 else 0)) ∧
      (a.toNat = 0 ∨ ¬ Mapped a → n = 0) ∧
      (0x10 ≤ a.toNat ∧ a.toNat ≤ 0x13 → n < 2 ^ 128) ∧ (0x1000 ≤ a.toNat ∧ a.toNat ≤ 0x103F → n < 2 ^ 8) ∧
      (a.toNat = 2 ∨ a.toNat = 3 ∨ 0x100 ≤ a.toNat ∧ a.toNat < 0x200 ∨ 0x100000 ≤ a.toNat → n < 2 ^ 64) ∧
      (4 ≤ a.toNat ∧ a.toNat ≤ 7 → n < 2 ^ 32)

/-- R72, R73, R40: a read of address b after a write of n to address a, other than CMD and STATUS, while BUSY = 0. The
stored bits are read back at a, and every other address reads as before. -/
def Obligations.ReadAfterHostWrite : Prop :=
  ∀ (s : State) (ts : List Turn) (a b : Word) (n : Nat),
    s.turns = .write a n :: .read b :: ts → s.busy = false → a.toNat ≠ 0 → a.toNat ≠ 1 →
    ∃ t, Runs 2 s t ∧ t.turns = ts ∧
      t.replies = (match storedBits a with
        | some w => if b = a then n % 2 ^ w else idleRead s (target b)
        | none => idleRead s (target b)) :: s.replies

/-- R37, R38, R39, R43, R44, R46, R47: no host access changes the configuration, the device state, ERR, KEY, NONCE, NL,
OUT or OUT_LEN. Later host writes to NONCE_BUF or NONCE_LEN do not change NONCE. -/
def Obligations.HostAccessesLeaveEngineState : Prop :=
  ∀ (s t : State) (ts : List Turn) (a : Word) (n : Nat),
    s.turns = .read a :: ts ∨ s.turns = .write a n :: ts → step s = .next t →
    SameConfig s t ∧ SameKey s t ∧ SameOut s t ∧ t.err = s.err ∧ t.seq = s.seq

/-- R115, R85 (b), R311: the `wait` of a pending command, whatever the number of polls before the completion step. Each
of those polls reads BUSY = 1, the last one reads BUSY = 0, and the command has completed. -/
def Obligations.WaitEndsAfterCompletion : Prop :=
  ∀ (s : State) (w : Word) (polls : Nat) (ts : List Turn),
    s.pend = some w → s.turns = Pseudo.wait polls ++ ts →
    ∃ t last early, Runs (polls + 2) s t ∧ t.turns = ts ∧ t.busy = false ∧
      t.replies = last :: (early ++ s.replies) ∧ early.length = polls ∧ last % 2 = 0 ∧ ∀ r ∈ early, r % 2 = 1

/-- R46, R47, R73: what a host read returns, and every register a host access leaves, does not depend on KEY, NONCE or
NL. -/
def Obligations.HostNeverReadsKeyOrNonce : Prop :=
  ∀ (s s' t : State) (ts : List Turn) (a : Word) (n : Nat),
    AgreeOutsideKey s s' → s.turns = .read a :: ts ∨ s.turns = .write a n :: ts → step s = .next t →
    ∃ t', step s' = .next t' ∧ AgreeOutsideKey t t'

/-- R46, R47: only RC and KS carry anything from KEY, NONCE or NL to the rest of the state. -/
def Obligations.OnlyRcAndKsReadKeyOrNonce : Prop :=
  ∀ (i : Instr) (s s' t : State), ¬ NeedsKey i → AgreeOutsideKey s s' → exec i s = .next t →
    ∃ t', exec i s' = .next t' ∧ AgreeOutsideKey t t'

/-! ## Errors (60_exceptions.md) -/

/-- R280: a completion step that ends with an error writes only ERR and BUSY, for every word that may be pending. -/
def Obligations.FailingCommandWritesOnlyErrAndBusy : Prop :=
  ∀ (s t : State) (ts : List Turn) (w : Word), EngineNext s ts → s.pend = some w → s.seq = none →
    step s = .next t → t.err ≠ .ok → t = { s with turns := ts, pend := none, err := t.err }

/-- R276: NotConstructed is the answer in NOPARAM of every command except CONFIG, LBN and DBN, and of no other. -/
def Obligations.NotConstructedExactlyInNoparam : Prop :=
  ∀ (i : Instr) (s : State),
    (NeedsModulus i → s.dev = .noparam → exec i s = .next { s with err := .notConstructed }) ∧
    ∀ t, exec i s = .next t → (t.err = .notConstructed ↔ NeedsModulus i ∧ s.dev = .noparam)

/-- R274: NotInitialized is the answer of KS and RC in UNCONFIGURED, and of nothing else. -/
def Obligations.NotInitializedExactlyBeforeInit : Prop :=
  ∀ (i : Instr) (s : State),
    (NeedsKey i → s.dev = .unconfigured → exec i s = .next { s with err := .notInitialized }) ∧
    ∀ t, exec i s = .next t → (t.err = .notInitialized ↔ NeedsKey i ∧ s.dev = .unconfigured)

/-- R272: InvalidParameter is raised by CONFIG, and only by CONFIG, in exactly the four cases of the rule. -/
def Obligations.InvalidParameterExactlyFromConfig : Prop :=
  ∀ (i : Instr) (s t : State), exec i s = .next t →
    (t.err = .invalidParameter ↔ ∃ lvl m6, i = .config lvl m6 ∧
      (s.prime.toNat % 3 ≠ 2 ∨ s.prime.toNat ≤ 65536 ∨ lvl > 1 ∨ m6 > 36))

/-- R273, with the priority of R279: InvalidInput is the answer exactly when the device state lets the command go on and
one of the four cases holds. -/
def Obligations.InvalidInputExactly : Prop :=
  ∀ (i : Instr) (s t : State), exec i s = .next t →
    (t.err = .invalidInput ↔
      InputError s i ∧ s.dev ≠ .noparam ∧ (NeedsKey i → s.dev = .ready))

/-- R275, R247: for every XOF and every matrix, RC and KS end with PrimitiveFailure exactly when they get past their
checks and one of their hash calls fails; then nothing but ERR is written. Under SHAKE128 no command does. -/
def Obligations.PrimitiveFailureExactlyWhenTheHashFails : Prop :=
  (∀ (c : Params) (vd : VReg) (xa xb : XReg) (s : State),
    rcBody c vd xa xb s = .error .primitiveFailure ↔
      s.dev = .ready ∧ (s.scalar xa).toNat < 2 ^ 32 ∧ (s.scalar xb).toNat < 2 ^ 32 ∧
      c.xof (hashInput c s.nonceBytes (s.scalar xa).toNat (s.scalar xb).toNat) 288 = none) ∧
  (∀ (c : Params) (xa : XReg) (s : State),
    ksBody c xa s = .error .primitiveFailure ↔
      s.dev = .ready ∧ (s.scalar xa).toNat < 2 ^ 32 ∧ (s.scalar xa).toNat * (36 - s.trunc.toNat) ≤ 4096 ∧
      ∃ j r, j < (s.scalar xa).toNat ∧ r ≤ s.rounds.toNat ∧ c.xof (hashInput c s.nonceBytes r j) 288 = none) ∧
  (∀ (s t : State), settle (.error .primitiveFailure) s = .next t → t = { s with err := .primitiveFailure }) ∧
  ∀ (i : Instr) (s t : State), exec i s = .next t → t.err ≠ .primitiveFailure

/-- R31: the device state changes only by reset (to NOPARAM), a successful CONFIG (to UNCONFIGURED) and a successful
INIT out of UNCONFIGURED (to READY). -/
def Obligations.DeviceStateTransitions : Prop :=
  ∀ s t : State, step s = .next t → t.dev ≠ s.dev →
    (t.dev = .noparam ∧ ∃ ts, s.turns = .reset :: ts) ∨
    (t.dev = .unconfigured ∧ t.err = .ok ∧ ∃ lvl m6, Completing s (.config lvl m6)) ∨
    (t.dev = .ready ∧ t.err = .ok ∧ s.dev = .unconfigured ∧ ∃ vs1 len, Completing s (.init vs1 len))

/-- R33, R34, R36 to R41, R43, R44, R46, R47: which command may write which state. A register is unchanged by every
command but the ones its rule names. -/
def Obligations.EachRegisterHasItsOwnWriters : Prop :=
  ∀ (i : Instr) (s t : State), exec i s = .next t →
    SameHostRegisters s t ∧ t.pend = s.pend ∧ t.ovr = s.ovr ∧ t.turns = s.turns ∧ t.replies = s.replies ∧
    t.draws = s.draws ∧
    (t.p = s.p ∧ t.rounds = s.rounds ∧ t.trunc = s.trunc ∨ i.mnemonic = .CONFIG) ∧
    (SameKey s t ∨ i.mnemonic = .INIT) ∧ (t.dev = s.dev ∨ i.mnemonic = .CONFIG ∨ i.mnemonic = .INIT) ∧
    (SameOut s t ∧ t.seq = s.seq ∨ i.mnemonic = .KS) ∧ (SameVectors s t ∨ WritesVector i) ∧
    (SameScalars s t ∨ WritesScalar i)

/-- R18, which the spec derives: every field element a command writes is canonical. A command that succeeds leaves the
elements it writes below the modulus: those of its destination V[vd], KEY after INIT, and OUT[0] to OUT[OUT_LEN - 1] after
KS. And no command, whether it succeeds or not, changes an element of V, KEY or OUT to one that is not. -/
def Obligations.WrittenElementsAreCanonical : Prop :=
  ∀ (i : Instr) (s t : State), Inv s → exec i s = .next t →
    (t.err = .ok →
      (∀ (r : VReg) (k : Fin 36), WritesElement i r k → (t.vec r)[k].toNat < s.p.toNat) ∧
      (i.mnemonic = .INIT → ∀ k : Fin 36, t.key[k].toNat < s.p.toNat) ∧
      (i.mnemonic = .KS → ∀ n, n < t.outLen.toNat → (t.out.read n).toNat < s.p.toNat)) ∧
    (∀ (r : VReg) (k : Fin 36), (t.vec r)[k] ≠ (s.vec r)[k] → (t.vec r)[k].toNat < s.p.toNat) ∧
    (∀ k : Fin 36, t.key[k] ≠ s.key[k] → t.key[k].toNat < s.p.toNat) ∧
    ∀ n, t.out.read n ≠ s.out.read n → (t.out.read n).toNat < s.p.toNat

/-! ## The SBox unit (41_sbox.md) -/

/-- R142: the result of SBOX and its frame. -/
def Obligations.SboxWritesTheImageOfItsTriple : Prop :=
  ∀ (s : State) (vd vs1 : VReg), s.dev ≠ .noparam → (∀ k : Fin 36, k.val < 3 → (s.vec vs1)[k].toNat < s.p.toNat) →
    ∃ t, exec (.sbox vd vs1 3) s = .next t ∧ t.err = .ok ∧
      SboxImage s.p.toNat (s.vec vs1)[0].toNat (s.vec vs1)[1].toNat (s.vec vs1)[2].toNat
        (t.vec vd)[0].toNat (t.vec vd)[1].toNat (t.vec vd)[2].toNat ∧
      (∀ k : Fin 36, 3 ≤ k.val → (t.vec vd)[k] = (s.vec vd)[k]) ∧ VectorFrame vd s t

/-- R142, corner cases: x0 = 0 is the identity, x0 = p - 1 gives (p - 1, x1 - x2 mod p, x1). -/
def Obligations.SboxCornerCases : Prop :=
  ∀ (s t : State) (vd vs1 : VReg), s.dev ≠ .noparam → (∀ k : Fin 36, k.val < 3 → (s.vec vs1)[k].toNat < s.p.toNat) →
    exec (.sbox vd vs1 3) s = .next t →
    ((s.vec vs1)[0].toNat = 0 → (t.vec vd)[0] = (s.vec vs1)[0] ∧ (t.vec vd)[1] = (s.vec vs1)[1] ∧
      (t.vec vd)[2] = (s.vec vs1)[2]) ∧
    ((s.vec vs1)[0].toNat = s.p.toNat - 1 → (t.vec vd)[0].toNat = s.p.toNat - 1 ∧
      ((t.vec vd)[1].toNat : Int) = (((s.vec vs1)[1].toNat : Int) - (s.vec vs1)[2].toNat) % s.p.toNat ∧
      (t.vec vd)[2] = (s.vec vs1)[1])

/-- R143, R144: the result of SBOXL, triple by triple, and its frame. -/
def Obligations.SboxlWritesTwelveImages : Prop :=
  ∀ (s : State) (vd vs1 : VReg), s.dev ≠ .noparam → (∀ k : Fin 36, (s.vec vs1)[k].toNat < s.p.toNat) →
    ∃ t, exec (.sboxl vd vs1 36) s = .next t ∧ t.err = .ok ∧ VectorFrame vd s t ∧
      ∀ (q : Fin 12) (k0 k1 k2 : Fin 36), k0.val = 3 * q.val → k1.val = 3 * q.val + 1 → k2.val = 3 * q.val + 2 →
        SboxImage s.p.toNat (s.vec vs1)[k0].toNat (s.vec vs1)[k1].toNat (s.vec vs1)[k2].toNat
          (t.vec vd)[k0].toNat (t.vec vd)[k1].toNat (t.vec vd)[k2].toNat

/-- R147, R148: ISPERM writes 1 and DIFFU writes the integer p * p. -/
def Obligations.IspermAndDiffuAnswers : Prop :=
  ∀ (s : State) (xd : XReg), s.dev ≠ .noparam →
    (∃ t, exec (.isperm xd) s = .next t ∧ t.err = .ok ∧ (t.scalar xd).toNat = 1 ∧ ScalarFrame xd s t) ∧
    ∃ t, exec (.diffu xd) s = .next t ∧ t.err = .ok ∧ (t.scalar xd).toNat = s.p.toNat ^ 2 ∧ ScalarFrame xd s t

/-- R145: for a prime p with p = 2 mod 3 the S-box is a bijection on canonical triples, and the inverse is the one the rule
gives, with e the inverse of y0 * y0 + y0 + 1. -/
def Obligations.SboxIsBijectiveForPrimeModulus : Prop :=
  ∀ p : Elem, p.toNat.Prime → p.toNat % 3 = 2 →
    ∀ y0 y1 y2 : Elem, Canonical y0 p → Canonical y1 p → Canonical y2 p →
      (∃! x : Elem × Elem × Elem,
        (Canonical x.1 p ∧ Canonical x.2.1 p ∧ Canonical x.2.2 p) ∧ sboxMap p x.1 x.2.1 x.2.2 = (y0, y1, y2)) ∧
      ∃ e : Nat, (y0.toNat ^ 2 + y0.toNat + 1) * e % p.toNat = 1 ∧
        sboxMap p y0 (elemMod ((((y0.toNat : Int) + 1) * y1.toNat - y0.toNat * y2.toNat) * e) p)
          (elemMod (((y0.toNat : Int) * y1.toNat + y2.toNat) * e) p) = (y0, y1, y2)

/-- R146: for a modulus that CONFIG accepts, prime or not, the S-box is a bijection on canonical triples exactly when no
prime factor of the modulus is 1 mod 3. -/
def Obligations.SboxIsBijectiveExactlyWithoutFactorOneModThree : Prop :=
  ∀ p : Elem, ModulusOk p →
    ((∀ y0 y1 y2 : Elem, Canonical y0 p → Canonical y1 p → Canonical y2 p →
        ∃! x : Elem × Elem × Elem,
          (Canonical x.1 p ∧ Canonical x.2.1 p ∧ Canonical x.2.2 p) ∧ sboxMap p x.1 x.2.1 x.2.2 = (y0, y1, y2)) ↔
      ∀ q : Nat, q.Prime → q ∣ p.toNat → q % 3 ≠ 1)

/-- R146: for the composite modulus 65555, which CONFIG accepts, the S-box is not injective on canonical triples. -/
def Obligations.SboxIsNotInjectiveForCompositeModulus : Prop :=
  ModulusOk 65555 ∧ ∃ a b c b' c' : Elem,
    Canonical a 65555 ∧ Canonical b 65555 ∧ Canonical c 65555 ∧ Canonical b' 65555 ∧ Canonical c' 65555 ∧
      (b, c) ≠ (b', c') ∧ sboxMap 65555 a b c = sboxMap 65555 a b' c'

/-! ## The LinearLayer unit (42_linear.md) -/

/-- R171, R172: the result of LIN, for the free matrix, and its frame. -/
def Obligations.LinWritesMatrixProduct : Prop :=
  ∀ (s : State) (vd vs1 : VReg), s.dev ≠ .noparam → (∀ k : Fin 36, (s.vec vs1)[k].toNat < s.p.toNat) →
    ∃ t, exec (.lin vd vs1 36) s = .next t ∧ t.err = .ok ∧ VectorFrame vd s t ∧
      ∀ r : Fin 36, (t.vec vd)[r].toNat =
        (∑ k : Fin 36, if Config.matrix r k then (s.vec vs1)[k].toNat else 0) % s.p.toNat

/-- R174, which the spec derives from R171: L_p is additive and homogeneous, and L_p(all-ones) is nonzero exactly when M has
a nonzero row, for every M and every modulus the CORE holds. -/
def Obligations.LinearLayerIsLinear : Prop :=
  ∀ (c : Params) (p : Elem), ModulusOk p →
    (∀ (a b : Vec) (r : Fin 36), (linearLayer c p (addVec p a b))[r].toNat =
      ((linearLayer c p a)[r].toNat + (linearLayer c p b)[r].toNat) % p.toNat) ∧
    (∀ (l : Nat) (a : Vec) (r : Fin 36), (linearLayer c p (tabulate fun k => elemMod ((l : Int) * a[k].toNat) p))[r].toNat =
      (l * (linearLayer c p a)[r].toNat) % p.toNat) ∧
    ((∃ r : Fin 36, (linearLayer c p (Vector.replicate 36 1))[r].toNat ≠ 0) ↔ ∃ r k, c.matrix r k = true)

/-- R173: the table-driven evaluation gives exactly L_p, for every matrix, modulus and vector. The table is a function here
and no state: log entry 11. -/
def Obligations.TableEvaluationEqualsLinearLayer : Prop :=
  ∀ (c : Params) (p : Elem) (x : Vec), linearByTable c p x = linearLayer c p x

/-- R175, R176: LBN writes 6 and DBN writes 10, in every device state. -/
def Obligations.BranchNumberAnswers : Prop :=
  ∀ (s : State) (xd : XReg),
    (∃ t, exec (.lbn xd) s = .next t ∧ t.err = .ok ∧ (t.scalar xd).toNat = 6 ∧ ScalarFrame xd s t) ∧
    ∃ t, exec (.dbn xd) s = .next t ∧ t.err = .ok ∧ (t.scalar xd).toNat = 10 ∧ ScalarFrame xd s t

/-! ## The RoundKeyGenerator unit (43_roundkey.md) -/

/-- R201 to R204 under the default XOF, SHAKE128 (log entry 7): RC writes the 36 constants of the hash of
nonce, be32(j), be32(i), each nonzero and canonical, and nothing else. -/
def Obligations.RcWritesTheRoundConstant : Prop :=
  ∀ (s : State) (vd : VReg) (xa xb : XReg), Inv s → s.dev = .ready →
    (s.scalar xa).toNat < 2 ^ 32 → (s.scalar xb).toNat < 2 ^ 32 →
    ∃ t, exec (.rc vd xa xb) s = .next t ∧ t.err = .ok ∧ VectorFrame vd s t ∧
      ∀ k : Fin 36,
        (t.vec vd)[k].toNat = constantOf
          (chunkValue (shake128Bytes
            (s.nonceBytes ++ be32 (s.scalar xb).toNat ++ be32 (s.scalar xa).toNat) 288) k.val) s.p.toNat ∧
        1 ≤ (t.vec vd)[k].toNat ∧ (t.vec vd)[k].toNat < s.p.toNat

/-- R201, R202, R203: for every XOF that succeeds, a round constant is given by the 288 bytes the hash returns for the nonce,
be32(j) and be32(i), and each element lies in [1, p-1]. Where the XOF fails there is none. -/
def Obligations.RoundConstantOfAnyHash : Prop :=
  ∀ (c : Params) (n : List Byte) (i j : Nat) (p : Elem), ModulusOk p → c.indexOrder = .big → c.chunkOrder = .big →
    (c.xof (n ++ be32 j ++ be32 i) 288 = none → roundConstant c n i j p = none) ∧
    ∀ h, c.xof (n ++ be32 j ++ be32 i) 288 = some h →
      ∃ r, roundConstant c n i j p = some r ∧
        ∀ k : Fin 36, r[k].toNat = constantOf (chunkValue h.toList k.val) p.toNat ∧ 1 ≤ r[k].toNat ∧ r[k].toNat < p.toNat

/-- R205: the result of RKEY and its frame. KEY is not read. -/
def Obligations.RkeyWritesProducts : Prop :=
  ∀ (s : State) (vd vs1 vs2 : VReg), s.dev ≠ .noparam →
    (∀ k : Fin 36, (s.vec vs1)[k].toNat < s.p.toNat ∧ (s.vec vs2)[k].toNat < s.p.toNat) →
    ∃ t, exec (.rkey vd vs1 vs2 36) s = .next t ∧ t.err = .ok ∧ VectorFrame vd s t ∧
      ∀ k : Fin 36, (t.vec vd)[k].toNat = (s.vec vs1)[k].toNat * (s.vec vs2)[k].toNat % s.p.toNat

/-- R206: the result of ARK and its frame. -/
def Obligations.ArkWritesSums : Prop :=
  ∀ (s : State) (vd vs1 vs2 : VReg), s.dev ≠ .noparam →
    (∀ k : Fin 36, (s.vec vs1)[k].toNat < s.p.toNat ∧ (s.vec vs2)[k].toNat < s.p.toNat) →
    ∃ t, exec (.ark vd vs1 vs2 36) s = .next t ∧ t.err = .ok ∧ VectorFrame vd s t ∧
      ∀ k : Fin 36, (t.vec vd)[k].toNat = ((s.vec vs1)[k].toNat + (s.vec vs2)[k].toNat) % s.p.toNat

/-! ## The YuSCipher orchestrator (44_cipher.md) -/

/-- R235, R236: the result of a CONFIG that passes its checks, from any device state, and its frame. -/
def Obligations.ConfigLoadsTheConfiguration : Prop :=
  ∀ (s : State) (lvl m6 : Nat), s.prime.toNat % 3 = 2 → s.prime.toNat > 2 ^ 16 → lvl ≤ 1 → m6 ≤ 36 →
    ∃ t, exec (.config lvl m6) s = .next t ∧ t.err = .ok ∧ t.dev = .unconfigured ∧ t.p = s.prime ∧
      t.rounds.toNat = (if lvl = 0 then 5 else 6) ∧ t.trunc.toNat = m6 ∧
      SameBus s t ∧ SameHostRegisters s t ∧ SameKey s t ∧ SameOut s t ∧ SameVectors s t ∧ SameScalars s t

/-- R240, R241: the result of an INIT that passes its checks, from UNCONFIGURED or READY, and its frame. -/
def Obligations.InitLoadsKeyAndNonce : Prop :=
  ∀ (s : State) (vs1 : VReg), s.dev ≠ .noparam → (∀ k : Fin 36, (s.vec vs1)[k].toNat < s.p.toNat) →
    s.nonceLen.toNat ≤ 64 →
    ∃ t, exec (.init vs1 36) s = .next t ∧ t.err = .ok ∧ t.dev = .ready ∧ (∀ k : Fin 36, t.key[k] = (s.vec vs1)[k]) ∧
      t.nl.val = s.nonceLen.toNat ∧ t.nonceBytes = s.nonceBuf.toList.take s.nonceLen.toNat ∧
      t.p = s.p ∧ t.rounds = s.rounds ∧ t.trunc = s.trunc ∧
      SameBus s t ∧ SameHostRegisters s t ∧ SameOut s t ∧ SameVectors s t ∧ SameScalars s t

/-- R242, R243: the result of ROUND, in terms of the S-box layer and the matrix product, and its frame. -/
def Obligations.RoundWritesTheRoundTransform : Prop :=
  ∀ (s : State) (vd vs1 vs2 : VReg), s.dev ≠ .noparam →
    (∀ k : Fin 36, (s.vec vs1)[k].toNat < s.p.toNat ∧ (s.vec vs2)[k].toNat < s.p.toNat) →
    ∃ t, exec (.round vd vs1 vs2 36) s = .next t ∧ t.err = .ok ∧ VectorFrame vd s t ∧
      ∀ r : Fin 36, (t.vec vd)[r].toNat =
        ((∑ k : Fin 36, if Config.matrix r k then (sboxLayer s.p (s.vec vs1))[k].toNat else 0) % s.p.toNat
          + (s.vec vs2)[r].toNat) % s.p.toNat

/-- R243, R316: ROUND leaves in its destination what SBOXL, LIN and ARK leave through a scratch register that does not
hold the round key. -/
def Obligations.RoundIsSboxlThenLinThenArk : Prop :=
  ∀ (s : State) (vd vs1 vs2 vt : VReg), s.dev ≠ .noparam → vt ≠ vs2 →
    (∀ k : Fin 36, (s.vec vs1)[k].toNat < s.p.toNat ∧ (s.vec vs2)[k].toNat < s.p.toNat) →
    ∃ t t1 t2 t3, exec (.round vd vs1 vs2 36) s = .next t ∧ exec (.sboxl vt vs1 36) s = .next t1 ∧
      exec (.lin vt vt 36) t1 = .next t2 ∧ exec (.ark vd vt vs2 36) t2 = .next t3 ∧
      t.err = .ok ∧ t1.err = .ok ∧ t2.err = .ok ∧ t3.err = .ok ∧ t3.vec vd = t.vec vd

/-- R246, R49: the sequencer of a block, run to its end, holds the state that the block function of R246 computes, and
fails exactly when it fails. For every XOF and matrix. The sequencer's moves (whitening, one move a round, the final
diffusion) are the model's own cut of R246: log entry 10. The block function is pinned step by step: the counter vector of
R245, whitening with the round key of round 0, the R rounds of R242, and the final linear pass. The round key of round r is
the product of KEY and the round constant of (NONCE, r, j), and there is none exactly when the hash fails. -/
def Obligations.SequencerComputesTheBlockFunction : Prop :=
  ∀ (c : Params) (s : State) (j : Nat),
    (runBlock c s j =
      (blockState c s j).map fun w => { j := j, r := s.rounds.toNat, phase := .truncate, work := w }) ∧
    (∀ w : Vec, blockState c s j = some w ↔
      ∃ st rk : Nat → Vec, (∀ r, r ≤ s.rounds.toNat → roundKey c s r j = some (rk r)) ∧
        st 0 = addVec s.p (counterVector s.p j) (rk 0) ∧
        (∀ r, r < s.rounds.toNat →
          st (r + 1) = addVec s.p (linearLayer c s.p (sboxLayer s.p (st r))) (rk (r + 1))) ∧
        w = linearLayer c s.p (st s.rounds.toNat)) ∧
    (0 < s.p.toNat → ∀ i : Fin 36, (counterVector s.p j)[i].toNat = (i.val + 1 + j) % s.p.toNat) ∧
    ∀ r : Nat,
      (roundKey c s r j = none ↔ roundConstant c s.nonceBytes r j s.p = none) ∧
      (0 < s.p.toNat → ∀ rk rc : Vec, roundKey c s r j = some rk → roundConstant c s.nonceBytes r j s.p = some rc →
        ∀ k : Fin 36, rk[k].toNat = s.key[k].toNat * rc[k].toNat % s.p.toNat)

/-- R248, R249: the result of KS, block-major and element-minor, and its frame. `blockState` is the block function as
R246 writes it. That KS ends with ERR = 0, and the values, rest on the XOF the model presumes, SHAKE128 (log entry 7). -/
def Obligations.KsWritesTheKeystream : Prop :=
  ∀ (s : State) (xa : XReg), Inv s → s.dev = .ready → (s.scalar xa).toNat < 2 ^ 32 →
    (s.scalar xa).toNat * (36 - s.trunc.toNat) ≤ 4096 →
    ∃ t, exec (.ks xa) s = .next t ∧ t.err = .ok ∧ t.outLen.toNat = (s.scalar xa).toNat * (36 - s.trunc.toNat) ∧
      (∀ j, j < (s.scalar xa).toNat → ∃ w, blockState params s j = some w ∧
        ∀ k : Fin 36, s.trunc.toNat ≤ k.val →
          t.out.read (j * (36 - s.trunc.toNat) + (k.val - s.trunc.toNat)) = w[k]) ∧
      (∀ n, (s.scalar xa).toNat * (36 - s.trunc.toNat) ≤ n → t.out.read n = s.out.read n) ∧
      t.pend = s.pend ∧ t.ovr = s.ovr ∧ t.turns = s.turns ∧ t.replies = s.replies ∧ t.draws = s.draws ∧
      SameHostRegisters s t ∧ SameConfig s t ∧ SameKey s t ∧ SameVectors s t ∧ SameScalars s t

/-- R248, corner cases: no block (B = 0), or blocks truncated to nothing (m = 36), give OUT_LEN = 0 and write no element of
OUT, whatever the count below 2^32. With m = 36 and B above 0 the hash is still called, so ERR = 0 rests there on the XOF
the model presumes, SHAKE128, which never fails (log entry 7). -/
def Obligations.KsWithoutOutput : Prop :=
  ∀ (s : State) (xa : XReg), s.dev = .ready → (s.scalar xa).toNat < 2 ^ 32 →
    (s.scalar xa).toNat = 0 ∨ s.trunc.toNat = 36 →
    ∃ t, exec (.ks xa) s = .next t ∧ t.err = .ok ∧ t.outLen = 0 ∧ ∀ n, t.out.read n = s.out.read n

/-- R250: the first B' blocks of a KS with count B are the output of a KS with count B' under the same configuration, key
and nonce, whatever the rest of the two states holds. -/
def Obligations.KeystreamBlocksAreIndependent : Prop :=
  ∀ (s s' t t' : State) (xa xa' : XReg), Inv s → Inv s' →
    s'.p = s.p → s'.rounds = s.rounds → s'.trunc = s.trunc → s'.key = s.key → s'.nonceBytes = s.nonceBytes →
    (s'.scalar xa').toNat ≤ (s.scalar xa).toNat →
    exec (.ks xa) s = .next t → exec (.ks xa') s' = .next t' → t.err = .ok → t'.err = .ok →
    ∀ n, n < t'.outLen.toNat → t'.out.read n = t.out.read n
end

