-- ==== Sys2Proof/Laws/State.lean ====
section
/-! SUPPORT. One lemma per field per update of State, so that no proof unfolds an update, and the registers read through
their accessors after an update. -/

namespace Sys2Proof.Machine

section
variable (s : State) (r : VReg) (e : Vec)

@[simp] theorem State.setVec_pend : (s.setVec r e).pend = s.pend := rfl
@[simp] theorem State.setVec_dev : (s.setVec r e).dev = s.dev := rfl
@[simp] theorem State.setVec_err : (s.setVec r e).err = s.err := rfl
@[simp] theorem State.setVec_ovr : (s.setVec r e).ovr = s.ovr := rfl
@[simp] theorem State.setVec_prime : (s.setVec r e).prime = s.prime := rfl
@[simp] theorem State.setVec_p : (s.setVec r e).p = s.p := rfl
@[simp] theorem State.setVec_rounds : (s.setVec r e).rounds = s.rounds := rfl
@[simp] theorem State.setVec_trunc : (s.setVec r e).trunc = s.trunc := rfl
@[simp] theorem State.setVec_nonceLen : (s.setVec r e).nonceLen = s.nonceLen := rfl
@[simp] theorem State.setVec_nonceBuf : (s.setVec r e).nonceBuf = s.nonceBuf := rfl
@[simp] theorem State.setVec_outLen : (s.setVec r e).outLen = s.outLen := rfl
@[simp] theorem State.setVec_out : (s.setVec r e).out = s.out := rfl
@[simp] theorem State.setVec_v : (s.setVec r e).v = s.v.set r e := rfl
@[simp] theorem State.setVec_x : (s.setVec r e).x = s.x := rfl
@[simp] theorem State.setVec_key : (s.setVec r e).key = s.key := rfl
@[simp] theorem State.setVec_nonce : (s.setVec r e).nonce = s.nonce := rfl
@[simp] theorem State.setVec_nl : (s.setVec r e).nl = s.nl := rfl
@[simp] theorem State.setVec_seq : (s.setVec r e).seq = s.seq := rfl
@[simp] theorem State.setVec_turns : (s.setVec r e).turns = s.turns := rfl
@[simp] theorem State.setVec_replies : (s.setVec r e).replies = s.replies := rfl
@[simp] theorem State.setVec_draws : (s.setVec r e).draws = s.draws := rfl
@[simp] theorem State.setVec_scalar (i : XReg) : (s.setVec r e).scalar i = s.scalar i := rfl
@[simp] theorem State.setVec_busy : (s.setVec r e).busy = s.busy := rfl
@[simp] theorem State.setVec_nonceBytes : (s.setVec r e).nonceBytes = s.nonceBytes := rfl

end

section
variable (s : State) (r : XReg) (n : Nat)

@[simp] theorem State.setScalar_pend : (s.setScalar r n).pend = s.pend := rfl
@[simp] theorem State.setScalar_dev : (s.setScalar r n).dev = s.dev := rfl
@[simp] theorem State.setScalar_err : (s.setScalar r n).err = s.err := rfl
@[simp] theorem State.setScalar_ovr : (s.setScalar r n).ovr = s.ovr := rfl
@[simp] theorem State.setScalar_prime : (s.setScalar r n).prime = s.prime := rfl
@[simp] theorem State.setScalar_p : (s.setScalar r n).p = s.p := rfl
@[simp] theorem State.setScalar_rounds : (s.setScalar r n).rounds = s.rounds := rfl
@[simp] theorem State.setScalar_trunc : (s.setScalar r n).trunc = s.trunc := rfl
@[simp] theorem State.setScalar_nonceLen : (s.setScalar r n).nonceLen = s.nonceLen := rfl
@[simp] theorem State.setScalar_nonceBuf : (s.setScalar r n).nonceBuf = s.nonceBuf := rfl
@[simp] theorem State.setScalar_outLen : (s.setScalar r n).outLen = s.outLen := rfl
@[simp] theorem State.setScalar_out : (s.setScalar r n).out = s.out := rfl
@[simp] theorem State.setScalar_v : (s.setScalar r n).v = s.v := rfl
@[simp] theorem State.setScalar_x : (s.setScalar r n).x = s.x.set r (BitVec.ofNat 128 n) := rfl
@[simp] theorem State.setScalar_key : (s.setScalar r n).key = s.key := rfl
@[simp] theorem State.setScalar_nonce : (s.setScalar r n).nonce = s.nonce := rfl
@[simp] theorem State.setScalar_nl : (s.setScalar r n).nl = s.nl := rfl
@[simp] theorem State.setScalar_seq : (s.setScalar r n).seq = s.seq := rfl
@[simp] theorem State.setScalar_turns : (s.setScalar r n).turns = s.turns := rfl
@[simp] theorem State.setScalar_replies : (s.setScalar r n).replies = s.replies := rfl
@[simp] theorem State.setScalar_draws : (s.setScalar r n).draws = s.draws := rfl
@[simp] theorem State.setScalar_vec (i : VReg) : (s.setScalar r n).vec i = s.vec i := rfl
@[simp] theorem State.setScalar_busy : (s.setScalar r n).busy = s.busy := rfl
@[simp] theorem State.setScalar_nonceBytes : (s.setScalar r n).nonceBytes = s.nonceBytes := rfl

end

section
variable (s : State) (r : VReg) (k : Fin 36) (e : Elem)

@[simp] theorem State.setElem_pend : (s.setElem r k e).pend = s.pend := rfl
@[simp] theorem State.setElem_dev : (s.setElem r k e).dev = s.dev := rfl
@[simp] theorem State.setElem_err : (s.setElem r k e).err = s.err := rfl
@[simp] theorem State.setElem_ovr : (s.setElem r k e).ovr = s.ovr := rfl
@[simp] theorem State.setElem_prime : (s.setElem r k e).prime = s.prime := rfl
@[simp] theorem State.setElem_p : (s.setElem r k e).p = s.p := rfl
@[simp] theorem State.setElem_rounds : (s.setElem r k e).rounds = s.rounds := rfl
@[simp] theorem State.setElem_trunc : (s.setElem r k e).trunc = s.trunc := rfl
@[simp] theorem State.setElem_nonceLen : (s.setElem r k e).nonceLen = s.nonceLen := rfl
@[simp] theorem State.setElem_nonceBuf : (s.setElem r k e).nonceBuf = s.nonceBuf := rfl
@[simp] theorem State.setElem_outLen : (s.setElem r k e).outLen = s.outLen := rfl
@[simp] theorem State.setElem_out : (s.setElem r k e).out = s.out := rfl
@[simp] theorem State.setElem_v : (s.setElem r k e).v = s.v.set r ((s.vec r).set k e) := rfl
@[simp] theorem State.setElem_x : (s.setElem r k e).x = s.x := rfl
@[simp] theorem State.setElem_key : (s.setElem r k e).key = s.key := rfl
@[simp] theorem State.setElem_nonce : (s.setElem r k e).nonce = s.nonce := rfl
@[simp] theorem State.setElem_nl : (s.setElem r k e).nl = s.nl := rfl
@[simp] theorem State.setElem_seq : (s.setElem r k e).seq = s.seq := rfl
@[simp] theorem State.setElem_turns : (s.setElem r k e).turns = s.turns := rfl
@[simp] theorem State.setElem_replies : (s.setElem r k e).replies = s.replies := rfl
@[simp] theorem State.setElem_draws : (s.setElem r k e).draws = s.draws := rfl
@[simp] theorem State.setElem_scalar (i : XReg) : (s.setElem r k e).scalar i = s.scalar i := rfl
@[simp] theorem State.setElem_busy : (s.setElem r k e).busy = s.busy := rfl
@[simp] theorem State.setElem_nonceBytes : (s.setElem r k e).nonceBytes = s.nonceBytes := rfl

end

section
variable (s : State) (e : Elem)

@[simp] theorem State.setPrime_pend : (s.setPrime e).pend = s.pend := rfl
@[simp] theorem State.setPrime_dev : (s.setPrime e).dev = s.dev := rfl
@[simp] theorem State.setPrime_err : (s.setPrime e).err = s.err := rfl
@[simp] theorem State.setPrime_ovr : (s.setPrime e).ovr = s.ovr := rfl
@[simp] theorem State.setPrime_prime : (s.setPrime e).prime = e := rfl
@[simp] theorem State.setPrime_p : (s.setPrime e).p = s.p := rfl
@[simp] theorem State.setPrime_rounds : (s.setPrime e).rounds = s.rounds := rfl
@[simp] theorem State.setPrime_trunc : (s.setPrime e).trunc = s.trunc := rfl
@[simp] theorem State.setPrime_nonceLen : (s.setPrime e).nonceLen = s.nonceLen := rfl
@[simp] theorem State.setPrime_nonceBuf : (s.setPrime e).nonceBuf = s.nonceBuf := rfl
@[simp] theorem State.setPrime_outLen : (s.setPrime e).outLen = s.outLen := rfl
@[simp] theorem State.setPrime_out : (s.setPrime e).out = s.out := rfl
@[simp] theorem State.setPrime_v : (s.setPrime e).v = s.v := rfl
@[simp] theorem State.setPrime_x : (s.setPrime e).x = s.x := rfl
@[simp] theorem State.setPrime_key : (s.setPrime e).key = s.key := rfl
@[simp] theorem State.setPrime_nonce : (s.setPrime e).nonce = s.nonce := rfl
@[simp] theorem State.setPrime_nl : (s.setPrime e).nl = s.nl := rfl
@[simp] theorem State.setPrime_seq : (s.setPrime e).seq = s.seq := rfl
@[simp] theorem State.setPrime_turns : (s.setPrime e).turns = s.turns := rfl
@[simp] theorem State.setPrime_replies : (s.setPrime e).replies = s.replies := rfl
@[simp] theorem State.setPrime_draws : (s.setPrime e).draws = s.draws := rfl
@[simp] theorem State.setPrime_vec (i : VReg) : (s.setPrime e).vec i = s.vec i := rfl
@[simp] theorem State.setPrime_scalar (i : XReg) : (s.setPrime e).scalar i = s.scalar i := rfl
@[simp] theorem State.setPrime_busy : (s.setPrime e).busy = s.busy := rfl
@[simp] theorem State.setPrime_nonceBytes : (s.setPrime e).nonceBytes = s.nonceBytes := rfl

end

section
variable (s : State) (n : BitVec 16)

@[simp] theorem State.setNonceLen_pend : (s.setNonceLen n).pend = s.pend := rfl
@[simp] theorem State.setNonceLen_dev : (s.setNonceLen n).dev = s.dev := rfl
@[simp] theorem State.setNonceLen_err : (s.setNonceLen n).err = s.err := rfl
@[simp] theorem State.setNonceLen_ovr : (s.setNonceLen n).ovr = s.ovr := rfl
@[simp] theorem State.setNonceLen_prime : (s.setNonceLen n).prime = s.prime := rfl
@[simp] theorem State.setNonceLen_p : (s.setNonceLen n).p = s.p := rfl
@[simp] theorem State.setNonceLen_rounds : (s.setNonceLen n).rounds = s.rounds := rfl
@[simp] theorem State.setNonceLen_trunc : (s.setNonceLen n).trunc = s.trunc := rfl
@[simp] theorem State.setNonceLen_nonceLen : (s.setNonceLen n).nonceLen = n := rfl
@[simp] theorem State.setNonceLen_nonceBuf : (s.setNonceLen n).nonceBuf = s.nonceBuf := rfl
@[simp] theorem State.setNonceLen_outLen : (s.setNonceLen n).outLen = s.outLen := rfl
@[simp] theorem State.setNonceLen_out : (s.setNonceLen n).out = s.out := rfl
@[simp] theorem State.setNonceLen_v : (s.setNonceLen n).v = s.v := rfl
@[simp] theorem State.setNonceLen_x : (s.setNonceLen n).x = s.x := rfl
@[simp] theorem State.setNonceLen_key : (s.setNonceLen n).key = s.key := rfl
@[simp] theorem State.setNonceLen_nonce : (s.setNonceLen n).nonce = s.nonce := rfl
@[simp] theorem State.setNonceLen_nl : (s.setNonceLen n).nl = s.nl := rfl
@[simp] theorem State.setNonceLen_seq : (s.setNonceLen n).seq = s.seq := rfl
@[simp] theorem State.setNonceLen_turns : (s.setNonceLen n).turns = s.turns := rfl
@[simp] theorem State.setNonceLen_replies : (s.setNonceLen n).replies = s.replies := rfl
@[simp] theorem State.setNonceLen_draws : (s.setNonceLen n).draws = s.draws := rfl
@[simp] theorem State.setNonceLen_vec (i : VReg) : (s.setNonceLen n).vec i = s.vec i := rfl
@[simp] theorem State.setNonceLen_scalar (i : XReg) : (s.setNonceLen n).scalar i = s.scalar i := rfl
@[simp] theorem State.setNonceLen_busy : (s.setNonceLen n).busy = s.busy := rfl
@[simp] theorem State.setNonceLen_nonceBytes : (s.setNonceLen n).nonceBytes = s.nonceBytes := rfl

end

section
variable (s : State) (b : Fin 64) (e : Byte)

@[simp] theorem State.setNonceByte_pend : (s.setNonceByte b e).pend = s.pend := rfl
@[simp] theorem State.setNonceByte_dev : (s.setNonceByte b e).dev = s.dev := rfl
@[simp] theorem State.setNonceByte_err : (s.setNonceByte b e).err = s.err := rfl
@[simp] theorem State.setNonceByte_ovr : (s.setNonceByte b e).ovr = s.ovr := rfl
@[simp] theorem State.setNonceByte_prime : (s.setNonceByte b e).prime = s.prime := rfl
@[simp] theorem State.setNonceByte_p : (s.setNonceByte b e).p = s.p := rfl
@[simp] theorem State.setNonceByte_rounds : (s.setNonceByte b e).rounds = s.rounds := rfl
@[simp] theorem State.setNonceByte_trunc : (s.setNonceByte b e).trunc = s.trunc := rfl
@[simp] theorem State.setNonceByte_nonceLen : (s.setNonceByte b e).nonceLen = s.nonceLen := rfl
@[simp] theorem State.setNonceByte_nonceBuf : (s.setNonceByte b e).nonceBuf = s.nonceBuf.set b e := rfl
@[simp] theorem State.setNonceByte_outLen : (s.setNonceByte b e).outLen = s.outLen := rfl
@[simp] theorem State.setNonceByte_out : (s.setNonceByte b e).out = s.out := rfl
@[simp] theorem State.setNonceByte_v : (s.setNonceByte b e).v = s.v := rfl
@[simp] theorem State.setNonceByte_x : (s.setNonceByte b e).x = s.x := rfl
@[simp] theorem State.setNonceByte_key : (s.setNonceByte b e).key = s.key := rfl
@[simp] theorem State.setNonceByte_nonce : (s.setNonceByte b e).nonce = s.nonce := rfl
@[simp] theorem State.setNonceByte_nl : (s.setNonceByte b e).nl = s.nl := rfl
@[simp] theorem State.setNonceByte_seq : (s.setNonceByte b e).seq = s.seq := rfl
@[simp] theorem State.setNonceByte_turns : (s.setNonceByte b e).turns = s.turns := rfl
@[simp] theorem State.setNonceByte_replies : (s.setNonceByte b e).replies = s.replies := rfl
@[simp] theorem State.setNonceByte_draws : (s.setNonceByte b e).draws = s.draws := rfl
@[simp] theorem State.setNonceByte_vec (i : VReg) : (s.setNonceByte b e).vec i = s.vec i := rfl
@[simp] theorem State.setNonceByte_scalar (i : XReg) : (s.setNonceByte b e).scalar i = s.scalar i := rfl
@[simp] theorem State.setNonceByte_busy : (s.setNonceByte b e).busy = s.busy := rfl
@[simp] theorem State.setNonceByte_nonceBytes : (s.setNonceByte b e).nonceBytes = s.nonceBytes := rfl

end

section
variable (s : State) (w : Word)

@[simp] theorem State.accept_pend : (s.accept w).pend = some w := rfl
@[simp] theorem State.accept_dev : (s.accept w).dev = s.dev := rfl
@[simp] theorem State.accept_err : (s.accept w).err = s.err := rfl
@[simp] theorem State.accept_ovr : (s.accept w).ovr = s.ovr := rfl
@[simp] theorem State.accept_prime : (s.accept w).prime = s.prime := rfl
@[simp] theorem State.accept_p : (s.accept w).p = s.p := rfl
@[simp] theorem State.accept_rounds : (s.accept w).rounds = s.rounds := rfl
@[simp] theorem State.accept_trunc : (s.accept w).trunc = s.trunc := rfl
@[simp] theorem State.accept_nonceLen : (s.accept w).nonceLen = s.nonceLen := rfl
@[simp] theorem State.accept_nonceBuf : (s.accept w).nonceBuf = s.nonceBuf := rfl
@[simp] theorem State.accept_outLen : (s.accept w).outLen = s.outLen := rfl
@[simp] theorem State.accept_out : (s.accept w).out = s.out := rfl
@[simp] theorem State.accept_v : (s.accept w).v = s.v := rfl
@[simp] theorem State.accept_x : (s.accept w).x = s.x := rfl
@[simp] theorem State.accept_key : (s.accept w).key = s.key := rfl
@[simp] theorem State.accept_nonce : (s.accept w).nonce = s.nonce := rfl
@[simp] theorem State.accept_nl : (s.accept w).nl = s.nl := rfl
@[simp] theorem State.accept_seq : (s.accept w).seq = s.seq := rfl
@[simp] theorem State.accept_turns : (s.accept w).turns = s.turns := rfl
@[simp] theorem State.accept_replies : (s.accept w).replies = s.replies := rfl
@[simp] theorem State.accept_draws : (s.accept w).draws = s.draws := rfl
@[simp] theorem State.accept_vec (i : VReg) : (s.accept w).vec i = s.vec i := rfl
@[simp] theorem State.accept_scalar (i : XReg) : (s.accept w).scalar i = s.scalar i := rfl
@[simp] theorem State.accept_nonceBytes : (s.accept w).nonceBytes = s.nonceBytes := rfl

end

section
variable (s : State) (ts : List Turn)

@[simp] theorem State.setTurns_pend : (s.setTurns ts).pend = s.pend := rfl
@[simp] theorem State.setTurns_dev : (s.setTurns ts).dev = s.dev := rfl
@[simp] theorem State.setTurns_err : (s.setTurns ts).err = s.err := rfl
@[simp] theorem State.setTurns_ovr : (s.setTurns ts).ovr = s.ovr := rfl
@[simp] theorem State.setTurns_prime : (s.setTurns ts).prime = s.prime := rfl
@[simp] theorem State.setTurns_p : (s.setTurns ts).p = s.p := rfl
@[simp] theorem State.setTurns_rounds : (s.setTurns ts).rounds = s.rounds := rfl
@[simp] theorem State.setTurns_trunc : (s.setTurns ts).trunc = s.trunc := rfl
@[simp] theorem State.setTurns_nonceLen : (s.setTurns ts).nonceLen = s.nonceLen := rfl
@[simp] theorem State.setTurns_nonceBuf : (s.setTurns ts).nonceBuf = s.nonceBuf := rfl
@[simp] theorem State.setTurns_outLen : (s.setTurns ts).outLen = s.outLen := rfl
@[simp] theorem State.setTurns_out : (s.setTurns ts).out = s.out := rfl
@[simp] theorem State.setTurns_v : (s.setTurns ts).v = s.v := rfl
@[simp] theorem State.setTurns_x : (s.setTurns ts).x = s.x := rfl
@[simp] theorem State.setTurns_key : (s.setTurns ts).key = s.key := rfl
@[simp] theorem State.setTurns_nonce : (s.setTurns ts).nonce = s.nonce := rfl
@[simp] theorem State.setTurns_nl : (s.setTurns ts).nl = s.nl := rfl
@[simp] theorem State.setTurns_seq : (s.setTurns ts).seq = s.seq := rfl
@[simp] theorem State.setTurns_turns : (s.setTurns ts).turns = ts := rfl
@[simp] theorem State.setTurns_replies : (s.setTurns ts).replies = s.replies := rfl
@[simp] theorem State.setTurns_draws : (s.setTurns ts).draws = s.draws := rfl
@[simp] theorem State.setTurns_vec (i : VReg) : (s.setTurns ts).vec i = s.vec i := rfl
@[simp] theorem State.setTurns_scalar (i : XReg) : (s.setTurns ts).scalar i = s.scalar i := rfl
@[simp] theorem State.setTurns_busy : (s.setTurns ts).busy = s.busy := rfl
@[simp] theorem State.setTurns_nonceBytes : (s.setTurns ts).nonceBytes = s.nonceBytes := rfl

end

section
variable (s : State) (n : Nat)

@[simp] theorem State.reply_pend : (s.reply n).pend = s.pend := rfl
@[simp] theorem State.reply_dev : (s.reply n).dev = s.dev := rfl
@[simp] theorem State.reply_err : (s.reply n).err = s.err := rfl
@[simp] theorem State.reply_ovr : (s.reply n).ovr = s.ovr := rfl
@[simp] theorem State.reply_prime : (s.reply n).prime = s.prime := rfl
@[simp] theorem State.reply_p : (s.reply n).p = s.p := rfl
@[simp] theorem State.reply_rounds : (s.reply n).rounds = s.rounds := rfl
@[simp] theorem State.reply_trunc : (s.reply n).trunc = s.trunc := rfl
@[simp] theorem State.reply_nonceLen : (s.reply n).nonceLen = s.nonceLen := rfl
@[simp] theorem State.reply_nonceBuf : (s.reply n).nonceBuf = s.nonceBuf := rfl
@[simp] theorem State.reply_outLen : (s.reply n).outLen = s.outLen := rfl
@[simp] theorem State.reply_out : (s.reply n).out = s.out := rfl
@[simp] theorem State.reply_v : (s.reply n).v = s.v := rfl
@[simp] theorem State.reply_x : (s.reply n).x = s.x := rfl
@[simp] theorem State.reply_key : (s.reply n).key = s.key := rfl
@[simp] theorem State.reply_nonce : (s.reply n).nonce = s.nonce := rfl
@[simp] theorem State.reply_nl : (s.reply n).nl = s.nl := rfl
@[simp] theorem State.reply_seq : (s.reply n).seq = s.seq := rfl
@[simp] theorem State.reply_turns : (s.reply n).turns = s.turns := rfl
@[simp] theorem State.reply_replies : (s.reply n).replies = n :: s.replies := rfl
@[simp] theorem State.reply_draws : (s.reply n).draws = s.draws := rfl
@[simp] theorem State.reply_vec (i : VReg) : (s.reply n).vec i = s.vec i := rfl
@[simp] theorem State.reply_scalar (i : XReg) : (s.reply n).scalar i = s.scalar i := rfl
@[simp] theorem State.reply_busy : (s.reply n).busy = s.busy := rfl
@[simp] theorem State.reply_nonceBytes : (s.reply n).nonceBytes = s.nonceBytes := rfl

end

section
variable (s : State)

@[simp] theorem State.countDraw_pend : (s.countDraw).pend = s.pend := rfl
@[simp] theorem State.countDraw_dev : (s.countDraw).dev = s.dev := rfl
@[simp] theorem State.countDraw_err : (s.countDraw).err = s.err := rfl
@[simp] theorem State.countDraw_ovr : (s.countDraw).ovr = s.ovr := rfl
@[simp] theorem State.countDraw_prime : (s.countDraw).prime = s.prime := rfl
@[simp] theorem State.countDraw_p : (s.countDraw).p = s.p := rfl
@[simp] theorem State.countDraw_rounds : (s.countDraw).rounds = s.rounds := rfl
@[simp] theorem State.countDraw_trunc : (s.countDraw).trunc = s.trunc := rfl
@[simp] theorem State.countDraw_nonceLen : (s.countDraw).nonceLen = s.nonceLen := rfl
@[simp] theorem State.countDraw_nonceBuf : (s.countDraw).nonceBuf = s.nonceBuf := rfl
@[simp] theorem State.countDraw_outLen : (s.countDraw).outLen = s.outLen := rfl
@[simp] theorem State.countDraw_out : (s.countDraw).out = s.out := rfl
@[simp] theorem State.countDraw_v : (s.countDraw).v = s.v := rfl
@[simp] theorem State.countDraw_x : (s.countDraw).x = s.x := rfl
@[simp] theorem State.countDraw_key : (s.countDraw).key = s.key := rfl
@[simp] theorem State.countDraw_nonce : (s.countDraw).nonce = s.nonce := rfl
@[simp] theorem State.countDraw_nl : (s.countDraw).nl = s.nl := rfl
@[simp] theorem State.countDraw_seq : (s.countDraw).seq = s.seq := rfl
@[simp] theorem State.countDraw_turns : (s.countDraw).turns = s.turns := rfl
@[simp] theorem State.countDraw_replies : (s.countDraw).replies = s.replies := rfl
@[simp] theorem State.countDraw_draws : (s.countDraw).draws = s.draws + 1 := rfl
@[simp] theorem State.countDraw_vec (i : VReg) : (s.countDraw).vec i = s.vec i := rfl
@[simp] theorem State.countDraw_scalar (i : XReg) : (s.countDraw).scalar i = s.scalar i := rfl
@[simp] theorem State.countDraw_busy : (s.countDraw).busy = s.busy := rfl
@[simp] theorem State.countDraw_nonceBytes : (s.countDraw).nonceBytes = s.nonceBytes := rfl

end

section
variable (s : State) (q : Elem) (rs : BitVec 3) (m : BitVec 6)

@[simp] theorem State.loadConfig_pend : (s.loadConfig q rs m).pend = s.pend := rfl
@[simp] theorem State.loadConfig_dev : (s.loadConfig q rs m).dev = .unconfigured := rfl
@[simp] theorem State.loadConfig_err : (s.loadConfig q rs m).err = s.err := rfl
@[simp] theorem State.loadConfig_ovr : (s.loadConfig q rs m).ovr = s.ovr := rfl
@[simp] theorem State.loadConfig_prime : (s.loadConfig q rs m).prime = s.prime := rfl
@[simp] theorem State.loadConfig_p : (s.loadConfig q rs m).p = q := rfl
@[simp] theorem State.loadConfig_rounds : (s.loadConfig q rs m).rounds = rs := rfl
@[simp] theorem State.loadConfig_trunc : (s.loadConfig q rs m).trunc = m := rfl
@[simp] theorem State.loadConfig_nonceLen : (s.loadConfig q rs m).nonceLen = s.nonceLen := rfl
@[simp] theorem State.loadConfig_nonceBuf : (s.loadConfig q rs m).nonceBuf = s.nonceBuf := rfl
@[simp] theorem State.loadConfig_outLen : (s.loadConfig q rs m).outLen = s.outLen := rfl
@[simp] theorem State.loadConfig_out : (s.loadConfig q rs m).out = s.out := rfl
@[simp] theorem State.loadConfig_v : (s.loadConfig q rs m).v = s.v := rfl
@[simp] theorem State.loadConfig_x : (s.loadConfig q rs m).x = s.x := rfl
@[simp] theorem State.loadConfig_key : (s.loadConfig q rs m).key = s.key := rfl
@[simp] theorem State.loadConfig_nonce : (s.loadConfig q rs m).nonce = s.nonce := rfl
@[simp] theorem State.loadConfig_nl : (s.loadConfig q rs m).nl = s.nl := rfl
@[simp] theorem State.loadConfig_seq : (s.loadConfig q rs m).seq = s.seq := rfl
@[simp] theorem State.loadConfig_turns : (s.loadConfig q rs m).turns = s.turns := rfl
@[simp] theorem State.loadConfig_replies : (s.loadConfig q rs m).replies = s.replies := rfl
@[simp] theorem State.loadConfig_draws : (s.loadConfig q rs m).draws = s.draws := rfl
@[simp] theorem State.loadConfig_vec (i : VReg) : (s.loadConfig q rs m).vec i = s.vec i := rfl
@[simp] theorem State.loadConfig_scalar (i : XReg) : (s.loadConfig q rs m).scalar i = s.scalar i := rfl
@[simp] theorem State.loadConfig_busy : (s.loadConfig q rs m).busy = s.busy := rfl
@[simp] theorem State.loadConfig_nonceBytes : (s.loadConfig q rs m).nonceBytes = s.nonceBytes := rfl

end

section
variable (s : State) (k : Vec) (len : Nat)

@[simp] theorem State.loadKey_pend : (s.loadKey k len).pend = s.pend := rfl
@[simp] theorem State.loadKey_dev : (s.loadKey k len).dev = .ready := rfl
@[simp] theorem State.loadKey_err : (s.loadKey k len).err = s.err := rfl
@[simp] theorem State.loadKey_ovr : (s.loadKey k len).ovr = s.ovr := rfl
@[simp] theorem State.loadKey_prime : (s.loadKey k len).prime = s.prime := rfl
@[simp] theorem State.loadKey_p : (s.loadKey k len).p = s.p := rfl
@[simp] theorem State.loadKey_rounds : (s.loadKey k len).rounds = s.rounds := rfl
@[simp] theorem State.loadKey_trunc : (s.loadKey k len).trunc = s.trunc := rfl
@[simp] theorem State.loadKey_nonceLen : (s.loadKey k len).nonceLen = s.nonceLen := rfl
@[simp] theorem State.loadKey_nonceBuf : (s.loadKey k len).nonceBuf = s.nonceBuf := rfl
@[simp] theorem State.loadKey_outLen : (s.loadKey k len).outLen = s.outLen := rfl
@[simp] theorem State.loadKey_out : (s.loadKey k len).out = s.out := rfl
@[simp] theorem State.loadKey_v : (s.loadKey k len).v = s.v := rfl
@[simp] theorem State.loadKey_x : (s.loadKey k len).x = s.x := rfl
@[simp] theorem State.loadKey_key : (s.loadKey k len).key = k := rfl
@[simp] theorem State.loadKey_nonce : (s.loadKey k len).nonce = tabulate fun b => if b.val < len then s.nonceBuf[b] else s.nonce[b] := rfl
@[simp] theorem State.loadKey_nl : (s.loadKey k len).nl = Fin.ofNat 65 len := rfl
@[simp] theorem State.loadKey_seq : (s.loadKey k len).seq = s.seq := rfl
@[simp] theorem State.loadKey_turns : (s.loadKey k len).turns = s.turns := rfl
@[simp] theorem State.loadKey_replies : (s.loadKey k len).replies = s.replies := rfl
@[simp] theorem State.loadKey_draws : (s.loadKey k len).draws = s.draws := rfl
@[simp] theorem State.loadKey_vec (i : VReg) : (s.loadKey k len).vec i = s.vec i := rfl
@[simp] theorem State.loadKey_scalar (i : XReg) : (s.loadKey k len).scalar i = s.scalar i := rfl
@[simp] theorem State.loadKey_busy : (s.loadKey k len).busy = s.busy := rfl

end

section
variable (s : State) (buf : List Elem) (q : Option Sequencer)

@[simp] theorem State.storeKeystream_pend : (s.storeKeystream buf q).pend = s.pend := rfl
@[simp] theorem State.storeKeystream_dev : (s.storeKeystream buf q).dev = s.dev := rfl
@[simp] theorem State.storeKeystream_err : (s.storeKeystream buf q).err = s.err := rfl
@[simp] theorem State.storeKeystream_ovr : (s.storeKeystream buf q).ovr = s.ovr := rfl
@[simp] theorem State.storeKeystream_prime : (s.storeKeystream buf q).prime = s.prime := rfl
@[simp] theorem State.storeKeystream_p : (s.storeKeystream buf q).p = s.p := rfl
@[simp] theorem State.storeKeystream_rounds : (s.storeKeystream buf q).rounds = s.rounds := rfl
@[simp] theorem State.storeKeystream_trunc : (s.storeKeystream buf q).trunc = s.trunc := rfl
@[simp] theorem State.storeKeystream_nonceLen : (s.storeKeystream buf q).nonceLen = s.nonceLen := rfl
@[simp] theorem State.storeKeystream_nonceBuf : (s.storeKeystream buf q).nonceBuf = s.nonceBuf := rfl
@[simp] theorem State.storeKeystream_outLen : (s.storeKeystream buf q).outLen = BitVec.ofNat 32 buf.length := rfl
@[simp] theorem State.storeKeystream_out : (s.storeKeystream buf q).out = s.out.writeList 0 buf := rfl
@[simp] theorem State.storeKeystream_v : (s.storeKeystream buf q).v = s.v := rfl
@[simp] theorem State.storeKeystream_x : (s.storeKeystream buf q).x = s.x := rfl
@[simp] theorem State.storeKeystream_key : (s.storeKeystream buf q).key = s.key := rfl
@[simp] theorem State.storeKeystream_nonce : (s.storeKeystream buf q).nonce = s.nonce := rfl
@[simp] theorem State.storeKeystream_nl : (s.storeKeystream buf q).nl = s.nl := rfl
@[simp] theorem State.storeKeystream_seq : (s.storeKeystream buf q).seq = q := rfl
@[simp] theorem State.storeKeystream_turns : (s.storeKeystream buf q).turns = s.turns := rfl
@[simp] theorem State.storeKeystream_replies : (s.storeKeystream buf q).replies = s.replies := rfl
@[simp] theorem State.storeKeystream_draws : (s.storeKeystream buf q).draws = s.draws := rfl
@[simp] theorem State.storeKeystream_vec (i : VReg) : (s.storeKeystream buf q).vec i = s.vec i := rfl
@[simp] theorem State.storeKeystream_scalar (i : XReg) : (s.storeKeystream buf q).scalar i = s.scalar i := rfl
@[simp] theorem State.storeKeystream_busy : (s.storeKeystream buf q).busy = s.busy := rfl
@[simp] theorem State.storeKeystream_nonceBytes : (s.storeKeystream buf q).nonceBytes = s.nonceBytes := rfl

end

section
variable (s : State) (e : ErrCode)

@[simp] theorem State.raise_pend : (s.raise e).pend = s.pend := rfl
@[simp] theorem State.raise_dev : (s.raise e).dev = s.dev := rfl
@[simp] theorem State.raise_err : (s.raise e).err = e := rfl
@[simp] theorem State.raise_ovr : (s.raise e).ovr = s.ovr := rfl
@[simp] theorem State.raise_prime : (s.raise e).prime = s.prime := rfl
@[simp] theorem State.raise_p : (s.raise e).p = s.p := rfl
@[simp] theorem State.raise_rounds : (s.raise e).rounds = s.rounds := rfl
@[simp] theorem State.raise_trunc : (s.raise e).trunc = s.trunc := rfl
@[simp] theorem State.raise_nonceLen : (s.raise e).nonceLen = s.nonceLen := rfl
@[simp] theorem State.raise_nonceBuf : (s.raise e).nonceBuf = s.nonceBuf := rfl
@[simp] theorem State.raise_outLen : (s.raise e).outLen = s.outLen := rfl
@[simp] theorem State.raise_out : (s.raise e).out = s.out := rfl
@[simp] theorem State.raise_v : (s.raise e).v = s.v := rfl
@[simp] theorem State.raise_x : (s.raise e).x = s.x := rfl
@[simp] theorem State.raise_key : (s.raise e).key = s.key := rfl
@[simp] theorem State.raise_nonce : (s.raise e).nonce = s.nonce := rfl
@[simp] theorem State.raise_nl : (s.raise e).nl = s.nl := rfl
@[simp] theorem State.raise_seq : (s.raise e).seq = s.seq := rfl
@[simp] theorem State.raise_turns : (s.raise e).turns = s.turns := rfl
@[simp] theorem State.raise_replies : (s.raise e).replies = s.replies := rfl
@[simp] theorem State.raise_draws : (s.raise e).draws = s.draws := rfl
@[simp] theorem State.raise_vec (i : VReg) : (s.raise e).vec i = s.vec i := rfl
@[simp] theorem State.raise_scalar (i : XReg) : (s.raise e).scalar i = s.scalar i := rfl
@[simp] theorem State.raise_busy : (s.raise e).busy = s.busy := rfl
@[simp] theorem State.raise_nonceBytes : (s.raise e).nonceBytes = s.nonceBytes := rfl

end

section
variable (s : State)

@[simp] theorem State.succeed_pend : (s.succeed).pend = s.pend := rfl
@[simp] theorem State.succeed_dev : (s.succeed).dev = s.dev := rfl
@[simp] theorem State.succeed_err : (s.succeed).err = .ok := rfl
@[simp] theorem State.succeed_ovr : (s.succeed).ovr = s.ovr := rfl
@[simp] theorem State.succeed_prime : (s.succeed).prime = s.prime := rfl
@[simp] theorem State.succeed_p : (s.succeed).p = s.p := rfl
@[simp] theorem State.succeed_rounds : (s.succeed).rounds = s.rounds := rfl
@[simp] theorem State.succeed_trunc : (s.succeed).trunc = s.trunc := rfl
@[simp] theorem State.succeed_nonceLen : (s.succeed).nonceLen = s.nonceLen := rfl
@[simp] theorem State.succeed_nonceBuf : (s.succeed).nonceBuf = s.nonceBuf := rfl
@[simp] theorem State.succeed_outLen : (s.succeed).outLen = s.outLen := rfl
@[simp] theorem State.succeed_out : (s.succeed).out = s.out := rfl
@[simp] theorem State.succeed_v : (s.succeed).v = s.v := rfl
@[simp] theorem State.succeed_x : (s.succeed).x = s.x := rfl
@[simp] theorem State.succeed_key : (s.succeed).key = s.key := rfl
@[simp] theorem State.succeed_nonce : (s.succeed).nonce = s.nonce := rfl
@[simp] theorem State.succeed_nl : (s.succeed).nl = s.nl := rfl
@[simp] theorem State.succeed_seq : (s.succeed).seq = s.seq := rfl
@[simp] theorem State.succeed_turns : (s.succeed).turns = s.turns := rfl
@[simp] theorem State.succeed_replies : (s.succeed).replies = s.replies := rfl
@[simp] theorem State.succeed_draws : (s.succeed).draws = s.draws := rfl
@[simp] theorem State.succeed_vec (i : VReg) : (s.succeed).vec i = s.vec i := rfl
@[simp] theorem State.succeed_scalar (i : XReg) : (s.succeed).scalar i = s.scalar i := rfl
@[simp] theorem State.succeed_busy : (s.succeed).busy = s.busy := rfl
@[simp] theorem State.succeed_nonceBytes : (s.succeed).nonceBytes = s.nonceBytes := rfl

end

section
variable (s : State)

@[simp] theorem State.finish_pend : (s.finish).pend = none := rfl
@[simp] theorem State.finish_dev : (s.finish).dev = s.dev := rfl
@[simp] theorem State.finish_err : (s.finish).err = s.err := rfl
@[simp] theorem State.finish_ovr : (s.finish).ovr = s.ovr := rfl
@[simp] theorem State.finish_prime : (s.finish).prime = s.prime := rfl
@[simp] theorem State.finish_p : (s.finish).p = s.p := rfl
@[simp] theorem State.finish_rounds : (s.finish).rounds = s.rounds := rfl
@[simp] theorem State.finish_trunc : (s.finish).trunc = s.trunc := rfl
@[simp] theorem State.finish_nonceLen : (s.finish).nonceLen = s.nonceLen := rfl
@[simp] theorem State.finish_nonceBuf : (s.finish).nonceBuf = s.nonceBuf := rfl
@[simp] theorem State.finish_outLen : (s.finish).outLen = s.outLen := rfl
@[simp] theorem State.finish_out : (s.finish).out = s.out := rfl
@[simp] theorem State.finish_v : (s.finish).v = s.v := rfl
@[simp] theorem State.finish_x : (s.finish).x = s.x := rfl
@[simp] theorem State.finish_key : (s.finish).key = s.key := rfl
@[simp] theorem State.finish_nonce : (s.finish).nonce = s.nonce := rfl
@[simp] theorem State.finish_nl : (s.finish).nl = s.nl := rfl
@[simp] theorem State.finish_seq : (s.finish).seq = none := rfl
@[simp] theorem State.finish_turns : (s.finish).turns = s.turns := rfl
@[simp] theorem State.finish_replies : (s.finish).replies = s.replies := rfl
@[simp] theorem State.finish_draws : (s.finish).draws = s.draws := rfl
@[simp] theorem State.finish_vec (i : VReg) : (s.finish).vec i = s.vec i := rfl
@[simp] theorem State.finish_scalar (i : XReg) : (s.finish).scalar i = s.scalar i := rfl
@[simp] theorem State.finish_nonceBytes : (s.finish).nonceBytes = s.nonceBytes := rfl

end

section
variable (s : State)

@[simp] theorem State.setOverrun_pend : (s.setOverrun).pend = s.pend := rfl
@[simp] theorem State.setOverrun_dev : (s.setOverrun).dev = s.dev := rfl
@[simp] theorem State.setOverrun_err : (s.setOverrun).err = s.err := rfl
@[simp] theorem State.setOverrun_ovr : (s.setOverrun).ovr = true := rfl
@[simp] theorem State.setOverrun_prime : (s.setOverrun).prime = s.prime := rfl
@[simp] theorem State.setOverrun_p : (s.setOverrun).p = s.p := rfl
@[simp] theorem State.setOverrun_rounds : (s.setOverrun).rounds = s.rounds := rfl
@[simp] theorem State.setOverrun_trunc : (s.setOverrun).trunc = s.trunc := rfl
@[simp] theorem State.setOverrun_nonceLen : (s.setOverrun).nonceLen = s.nonceLen := rfl
@[simp] theorem State.setOverrun_nonceBuf : (s.setOverrun).nonceBuf = s.nonceBuf := rfl
@[simp] theorem State.setOverrun_outLen : (s.setOverrun).outLen = s.outLen := rfl
@[simp] theorem State.setOverrun_out : (s.setOverrun).out = s.out := rfl
@[simp] theorem State.setOverrun_v : (s.setOverrun).v = s.v := rfl
@[simp] theorem State.setOverrun_x : (s.setOverrun).x = s.x := rfl
@[simp] theorem State.setOverrun_key : (s.setOverrun).key = s.key := rfl
@[simp] theorem State.setOverrun_nonce : (s.setOverrun).nonce = s.nonce := rfl
@[simp] theorem State.setOverrun_nl : (s.setOverrun).nl = s.nl := rfl
@[simp] theorem State.setOverrun_seq : (s.setOverrun).seq = s.seq := rfl
@[simp] theorem State.setOverrun_turns : (s.setOverrun).turns = s.turns := rfl
@[simp] theorem State.setOverrun_replies : (s.setOverrun).replies = s.replies := rfl
@[simp] theorem State.setOverrun_draws : (s.setOverrun).draws = s.draws := rfl
@[simp] theorem State.setOverrun_vec (i : VReg) : (s.setOverrun).vec i = s.vec i := rfl
@[simp] theorem State.setOverrun_scalar (i : XReg) : (s.setOverrun).scalar i = s.scalar i := rfl
@[simp] theorem State.setOverrun_busy : (s.setOverrun).busy = s.busy := rfl
@[simp] theorem State.setOverrun_nonceBytes : (s.setOverrun).nonceBytes = s.nonceBytes := rfl

end

section
variable (s : State)

@[simp] theorem State.clearOverrun_pend : (s.clearOverrun).pend = s.pend := rfl
@[simp] theorem State.clearOverrun_dev : (s.clearOverrun).dev = s.dev := rfl
@[simp] theorem State.clearOverrun_err : (s.clearOverrun).err = s.err := rfl
@[simp] theorem State.clearOverrun_ovr : (s.clearOverrun).ovr = false := rfl
@[simp] theorem State.clearOverrun_prime : (s.clearOverrun).prime = s.prime := rfl
@[simp] theorem State.clearOverrun_p : (s.clearOverrun).p = s.p := rfl
@[simp] theorem State.clearOverrun_rounds : (s.clearOverrun).rounds = s.rounds := rfl
@[simp] theorem State.clearOverrun_trunc : (s.clearOverrun).trunc = s.trunc := rfl
@[simp] theorem State.clearOverrun_nonceLen : (s.clearOverrun).nonceLen = s.nonceLen := rfl
@[simp] theorem State.clearOverrun_nonceBuf : (s.clearOverrun).nonceBuf = s.nonceBuf := rfl
@[simp] theorem State.clearOverrun_outLen : (s.clearOverrun).outLen = s.outLen := rfl
@[simp] theorem State.clearOverrun_out : (s.clearOverrun).out = s.out := rfl
@[simp] theorem State.clearOverrun_v : (s.clearOverrun).v = s.v := rfl
@[simp] theorem State.clearOverrun_x : (s.clearOverrun).x = s.x := rfl
@[simp] theorem State.clearOverrun_key : (s.clearOverrun).key = s.key := rfl
@[simp] theorem State.clearOverrun_nonce : (s.clearOverrun).nonce = s.nonce := rfl
@[simp] theorem State.clearOverrun_nl : (s.clearOverrun).nl = s.nl := rfl
@[simp] theorem State.clearOverrun_seq : (s.clearOverrun).seq = s.seq := rfl
@[simp] theorem State.clearOverrun_turns : (s.clearOverrun).turns = s.turns := rfl
@[simp] theorem State.clearOverrun_replies : (s.clearOverrun).replies = s.replies := rfl
@[simp] theorem State.clearOverrun_draws : (s.clearOverrun).draws = s.draws := rfl
@[simp] theorem State.clearOverrun_vec (i : VReg) : (s.clearOverrun).vec i = s.vec i := rfl
@[simp] theorem State.clearOverrun_scalar (i : XReg) : (s.clearOverrun).scalar i = s.scalar i := rfl
@[simp] theorem State.clearOverrun_busy : (s.clearOverrun).busy = s.busy := rfl
@[simp] theorem State.clearOverrun_nonceBytes : (s.clearOverrun).nonceBytes = s.nonceBytes := rfl

end

section
variable (s : State) (d : ResetDraw)

@[simp] theorem State.resetWith_pend : (s.resetWith d).pend = none := rfl
@[simp] theorem State.resetWith_dev : (s.resetWith d).dev = .noparam := rfl
@[simp] theorem State.resetWith_err : (s.resetWith d).err = .ok := rfl
@[simp] theorem State.resetWith_ovr : (s.resetWith d).ovr = false := rfl
@[simp] theorem State.resetWith_prime : (s.resetWith d).prime = d.prime := rfl
@[simp] theorem State.resetWith_p : (s.resetWith d).p = 0 := rfl
@[simp] theorem State.resetWith_rounds : (s.resetWith d).rounds = 0 := rfl
@[simp] theorem State.resetWith_trunc : (s.resetWith d).trunc = 0 := rfl
@[simp] theorem State.resetWith_nonceLen : (s.resetWith d).nonceLen = 0 := rfl
@[simp] theorem State.resetWith_nonceBuf : (s.resetWith d).nonceBuf = d.nonceBuf := rfl
@[simp] theorem State.resetWith_outLen : (s.resetWith d).outLen = 0 := rfl
@[simp] theorem State.resetWith_out : (s.resetWith d).out = Memory.ofPairs d.out := rfl
@[simp] theorem State.resetWith_v : (s.resetWith d).v = d.v := rfl
@[simp] theorem State.resetWith_x : (s.resetWith d).x = d.x := rfl
@[simp] theorem State.resetWith_key : (s.resetWith d).key = d.key := rfl
@[simp] theorem State.resetWith_nonce : (s.resetWith d).nonce = d.nonce := rfl
@[simp] theorem State.resetWith_nl : (s.resetWith d).nl = d.nl := rfl
@[simp] theorem State.resetWith_seq : (s.resetWith d).seq = none := rfl
@[simp] theorem State.resetWith_turns : (s.resetWith d).turns = s.turns := rfl
@[simp] theorem State.resetWith_replies : (s.resetWith d).replies = s.replies := rfl
@[simp] theorem State.resetWith_draws : (s.resetWith d).draws = s.draws := rfl

end

/-! ## Reading a register after writing one -/

section
variable (s : State) (r : VReg) (e : Vec) (x : XReg) (n : Nat)

@[simp] theorem State.vec_setVec_self : (s.setVec r e).vec r = e := by
  simp [State.vec]

theorem State.vec_setVec_of_ne {r' : VReg} (h : r' ≠ r) : (s.setVec r e).vec r' = s.vec r' := by
  have h' : (r : Nat) ≠ r' := fun hc => h (Fin.ext hc.symm)
  simp [State.vec, h']

@[simp] theorem State.scalar_setScalar_self : (s.setScalar x n).scalar x = BitVec.ofNat 128 n := by
  simp [State.scalar]

theorem State.scalar_setScalar_of_ne {x' : XReg} (h : x' ≠ x) : (s.setScalar x n).scalar x' = s.scalar x' := by
  have h' : (x : Nat) ≠ x' := fun hc => h (Fin.ext hc.symm)
  simp [State.scalar, h']

@[simp] theorem State.vec_setElem_self (k : Fin 36) (d : Elem) : (s.setElem r k d).vec r = (s.vec r).set k d :=
  State.vec_setVec_self s r _

theorem State.vec_setElem_of_ne (k : Fin 36) (d : Elem) {r' : VReg} (h : r' ≠ r) :
    (s.setElem r k d).vec r' = s.vec r' :=
  State.vec_setVec_of_ne s r _ h

@[simp] theorem State.busy_finish : s.finish.busy = false := rfl
@[simp] theorem State.busy_accept (w : Word) : (s.accept w).busy = true := rfl
@[simp] theorem State.busy_resetWith (d : ResetDraw) : (s.resetWith d).busy = false := rfl

/-- Nothing is lost when the turns are set to what they are. -/
theorem State.setTurns_self {ts : List Turn} (h : s.turns = ts) : s.setTurns ts = s := by
  subst h; rfl

end

end Sys2Proof.Machine
end

