-- ==== Sys2Proof/Laws/Ops.lean ====
section
/-! SUPPORT. What the shared operations do, said once: arithmetic mod p, vectors, the completion of a command. -/

namespace Sys2Proof.Machine

/-- mod(a, p) lies in [0, p-1] (R17). -/
theorem mod_lt (a : Int) {p : Nat} (hp : 0 < p) : mod a p < p := by
  have h := Int.emod_lt_of_pos a (b := (p : Int)) (by omega)
  have h0 := Int.emod_nonneg a (b := (p : Int)) (by omega)
  unfold mod; omega

/-- mod(a, p) is congruent to a (R17). -/
theorem cast_mod (a : Int) {p : Nat} (hp : 0 < p) : ((mod a p : Nat) : Int) = a % p := by
  have h0 := Int.emod_nonneg a (b := (p : Int)) (by omega)
  unfold mod; omega

theorem mod_natCast (a p : Nat) : mod (a : Int) p = a % p := by
  unfold mod; omega

/-- The register holds mod(a, p) exactly: no bit is lost. -/
theorem toNat_elemMod (a : Int) {p : Elem} (hp : 0 < p.toNat) : (elemMod a p).toNat = mod a p.toNat := by
  have h := mod_lt a hp
  have := p.isLt
  rw [elemMod, BitVec.toNat_ofNat, Nat.mod_eq_of_lt (by omega)]

/-- What is reduced is canonical (R18). -/
theorem canonical_elemMod (a : Int) {p : Elem} (hp : 0 < p.toNat) : Canonical (elemMod a p) p := by
  rw [Canonical, toNat_elemMod a hp]; exact mod_lt a hp

@[simp] theorem getElem_tabulate {α : Type} {n : Nat} (f : Fin n → α) (k : Nat) (h : k < n) :
    (tabulate f)[k] = f ⟨k, h⟩ := by
  simp [tabulate]

@[simp] theorem getElem_tabulate_fin {α : Type} {n : Nat} (f : Fin n → α) (k : Fin n) : (tabulate f)[k] = f k := by
  simp [tabulate]

/-! ## The completion of a command -/

@[simp] theorem settle_error (e : ErrCode) (s : State) : settle (.error e) s = .next (s.raise e) := rfl
@[simp] theorem settle_ok (t s : State) : settle (.ok t) s = .next t.succeed := rfl

/-- A completion always goes on, in one of two ways. -/
theorem settle_cases (r : Except ErrCode State) (s : State) :
    (∃ e, r = .error e ∧ settle r s = .next (s.raise e)) ∨ ∃ t, r = .ok t ∧ settle r s = .next t.succeed := by
  cases r with
  | error e => exact .inl ⟨e, rfl, rfl⟩
  | ok t => exact .inr ⟨t, rfl, rfl⟩

/-- The body of each command, as `exec` runs it. -/
def bodyOf (i : Instr) (s : State) : Except ErrCode State :=
  match i with
  | .sbox vd vs1 len => sboxBody vd vs1 len s
  | .sboxl vd vs1 len => sboxlBody vd vs1 len s
  | .isperm xd => ispermBody xd s
  | .diffu xd => diffuBody xd s
  | .lin vd vs1 len => linBody params vd vs1 len s
  | .lbn xd => lbnBody xd s
  | .dbn xd => dbnBody xd s
  | .rc vd xa xb => rcBody params vd xa xb s
  | .rkey vd vs1 vs2 len => rkeyBody vd vs1 vs2 len s
  | .ark vd vs1 vs2 len => arkBody vd vs1 vs2 len s
  | .config lvl m6 => configBody lvl m6 s
  | .init vs1 len => initBody vs1 len s
  | .round vd vs1 vs2 len => roundBody params vd vs1 vs2 len s
  | .ks xa => ksBody params xa s

theorem exec_eq_settle (i : Instr) (s : State) : exec i s = settle (bodyOf i s) s := by
  cases i <;> rfl

/-- Every command ends with a next state (R270, R311). -/
theorem exec_next (i : Instr) (s : State) : ∃ t, exec i s = .next t := by
  rw [exec_eq_settle]
  rcases settle_cases (bodyOf i s) s with ⟨_, _, h⟩ | ⟨_, _, h⟩ <;> exact ⟨_, h⟩

@[simp] theorem finishOutcome_next (t : State) : finishOutcome (.next t) = .next t.finish := rfl

/-- The engine's completion of a word the decoder reads. -/
theorem complete_of_decode_ok {w : Word} {i : Instr} (h : decode w = .ok i) (s : State) :
    complete w s = finishOutcome (exec i s) := by
  simp [complete, h]

/-- The engine's completion of an illegal word (R277). -/
theorem complete_of_decode_error {w : Word} {e : DecodeError} (h : decode w = .error e) (s : State) :
    complete w s = .next (s.raise .illegalCommand).finish := by
  simp [complete, h]

end Sys2Proof.Machine
end

