-- ==== Sys2Proof/Laws/Bodies.lean ====
section
/-! SUPPORT. Each body said once: when it succeeds and what it then leaves, and when it ends with a code and which. -/

namespace Sys2Proof.Machine

/-- A check that fails ends the body; one that passes lets it go on. -/
theorem check_eq_ok {P : Prop} [Decidable P] {e : ErrCode} {k : Except ErrCode State} {t : State} :
    (if P then .error e else k) = .ok t ↔ ¬ P ∧ k = .ok t := by
  split <;> simp_all

/-- The first check that fails gives the code. -/
theorem check_eq_error {P : Prop} [Decidable P] {e e' : ErrCode} {k : Except ErrCode State} :
    (if P then .error e else k) = .error e' ↔ P ∧ e = e' ∨ ¬ P ∧ k = .error e' := by
  split <;> simp_all

theorem ok_eq_ok {t u : State} : (.ok u : Except ErrCode State) = .ok t ↔ t = u := by
  rw [Except.ok.injEq, eq_comm]

theorem dev_ready_iff {d : DevState} : ¬ d = .noparam ∧ ¬ d = .unconfigured ↔ d = .ready := by
  cases d <;> simp

theorem hashed_eq_ok {α : Type} {o : Option α} {f : α → State} {t : State} :
    hashed o f = .ok t ↔ ∃ a, o = some a ∧ t = f a := by
  cases o <;> simp [hashed, eq_comm]

theorem hashed_eq_error {α : Type} {o : Option α} {f : α → State} {e : ErrCode} :
    hashed o f = .error e ↔ o = none ∧ e = .primitiveFailure := by
  cases o <;> simp [hashed, eq_comm]

section
variable {s t : State} {c : Params} {vd vs1 vs2 : VReg} {xd xa xb : XReg} {len lvl m6 : Nat}

theorem sboxBody_eq_ok : sboxBody vd vs1 len s = .ok t ↔
    ¬ s.dev = .noparam ∧ len = 3 ∧ TripleCanonical (s.vec vs1) s.p ∧
    t = s.setVec vd (setTriple (s.vec vd) (sboxMap s.p (s.vec vs1)[0] (s.vec vs1)[1] (s.vec vs1)[2])) := by
  simp only [sboxBody, check_eq_ok, ok_eq_ok, not_not, ne_eq]

theorem sboxlBody_eq_ok : sboxlBody vd vs1 len s = .ok t ↔
    ¬ s.dev = .noparam ∧ len = 36 ∧ AllCanonical (s.vec vs1) s.p ∧ t = s.setVec vd (sboxLayer s.p (s.vec vs1)) := by
  simp only [sboxlBody, check_eq_ok, ok_eq_ok, not_not, ne_eq]

theorem ispermBody_eq_ok : ispermBody xd s = .ok t ↔ ¬ s.dev = .noparam ∧ t = s.setScalar xd 1 := by
  simp only [ispermBody, check_eq_ok, ok_eq_ok]

theorem diffuBody_eq_ok : diffuBody xd s = .ok t ↔
    ¬ s.dev = .noparam ∧ t = s.setScalar xd (s.p.toNat * s.p.toNat) := by
  simp only [diffuBody, check_eq_ok, ok_eq_ok]

theorem linBody_eq_ok : linBody c vd vs1 len s = .ok t ↔
    ¬ s.dev = .noparam ∧ len = 36 ∧ AllCanonical (s.vec vs1) s.p ∧ t = s.setVec vd (linearLayer c s.p (s.vec vs1)) := by
  simp only [linBody, check_eq_ok, ok_eq_ok, not_not, ne_eq]

theorem lbnBody_eq_ok : lbnBody xd s = .ok t ↔ t = s.setScalar xd 6 := ok_eq_ok

theorem dbnBody_eq_ok : dbnBody xd s = .ok t ↔ t = s.setScalar xd 10 := ok_eq_ok

theorem rcBody_eq_ok : rcBody c vd xa xb s = .ok t ↔
    s.dev = .ready ∧ (InRange32 (s.scalar xa) ∧ InRange32 (s.scalar xb)) ∧
    ∃ r, roundConstant c s.nonceBytes (s.scalar xa).toNat (s.scalar xb).toNat s.p = some r ∧ t = s.setVec vd r := by
  simp only [rcBody, check_eq_ok, hashed_eq_ok, not_not]
  rw [← and_assoc, dev_ready_iff]

theorem rkeyBody_eq_ok : rkeyBody vd vs1 vs2 len s = .ok t ↔
    ¬ s.dev = .noparam ∧ len = 36 ∧ (AllCanonical (s.vec vs1) s.p ∧ AllCanonical (s.vec vs2) s.p) ∧
    t = s.setVec vd (mulVec s.p (s.vec vs1) (s.vec vs2)) := by
  simp only [rkeyBody, check_eq_ok, ok_eq_ok, not_not, ne_eq]

theorem arkBody_eq_ok : arkBody vd vs1 vs2 len s = .ok t ↔
    ¬ s.dev = .noparam ∧ len = 36 ∧ (AllCanonical (s.vec vs1) s.p ∧ AllCanonical (s.vec vs2) s.p) ∧
    t = s.setVec vd (addVec s.p (s.vec vs1) (s.vec vs2)) := by
  simp only [arkBody, check_eq_ok, ok_eq_ok, not_not, ne_eq]

theorem configBody_eq_ok : configBody lvl m6 s = .ok t ↔
    ModulusOk s.prime ∧ ¬ lvl > 1 ∧ ¬ m6 > 36 ∧
    t = s.loadConfig s.prime (roundsOfLevel lvl) (BitVec.ofNat 6 m6) := by
  simp only [configBody, check_eq_ok, ok_eq_ok, not_not]

theorem initBody_eq_ok : initBody vs1 len s = .ok t ↔
    ¬ s.dev = .noparam ∧ len = 36 ∧ AllCanonical (s.vec vs1) s.p ∧ ¬ s.nonceLen.toNat > Config.NMAX ∧
    t = s.loadKey (s.vec vs1) s.nonceLen.toNat := by
  simp only [initBody, check_eq_ok, ok_eq_ok, not_not, ne_eq]

theorem roundBody_eq_ok : roundBody c vd vs1 vs2 len s = .ok t ↔
    ¬ s.dev = .noparam ∧ len = 36 ∧ (AllCanonical (s.vec vs1) s.p ∧ AllCanonical (s.vec vs2) s.p) ∧
    t = s.setVec vd (roundTransform c s.p (s.vec vs1) (s.vec vs2)) := by
  simp only [roundBody, check_eq_ok, ok_eq_ok, not_not, ne_eq]

theorem ksBody_eq_ok : ksBody c xa s = .ok t ↔
    s.dev = .ready ∧ InRange32 (s.scalar xa) ∧
    ¬ keystreamLength (s.scalar xa).toNat s.trunc.toNat > Config.OUT_DEPTH ∧
    ∃ qs, runBlocks c s (s.scalar xa).toNat 0 = some qs ∧
      t = s.storeKeystream (keystream s.trunc.toNat qs) qs.getLast? := by
  simp only [ksBody, check_eq_ok, hashed_eq_ok, not_not]
  rw [← and_assoc, dev_ready_iff]

end

/-! When a body ends with a code, and which (R272 to R276, R279). -/

section
variable {s : State} {c : Params} {vd vs1 vs2 : VReg} {xd xa xb : XReg} {len lvl m6 : Nat} {e : ErrCode}

/-- Two checks that answer with the same code are one check. -/
theorem two_checks {P Q C : Prop} : P ∧ C ∨ ¬ P ∧ (Q ∧ C ∨ ¬ Q ∧ False) ↔ (P ∨ Q) ∧ C := by
  tauto

theorem sboxBody_eq_error : sboxBody vd vs1 len s = .error e ↔
    s.dev = .noparam ∧ e = .notConstructed ∨
    ¬ s.dev = .noparam ∧ (len ≠ 3 ∨ ¬ TripleCanonical (s.vec vs1) s.p) ∧ e = .invalidInput := by
  simp only [sboxBody, check_eq_error, reduceCtorEq, two_checks, eq_comm (b := e)]

theorem sboxlBody_eq_error : sboxlBody vd vs1 len s = .error e ↔
    s.dev = .noparam ∧ e = .notConstructed ∨
    ¬ s.dev = .noparam ∧ (len ≠ 36 ∨ ¬ AllCanonical (s.vec vs1) s.p) ∧ e = .invalidInput := by
  simp only [sboxlBody, check_eq_error, reduceCtorEq, two_checks, eq_comm (b := e)]

theorem ispermBody_eq_error : ispermBody xd s = .error e ↔ s.dev = .noparam ∧ e = .notConstructed := by
  simp only [ispermBody, check_eq_error, reduceCtorEq, and_false, or_false, eq_comm (b := e)]

theorem diffuBody_eq_error : diffuBody xd s = .error e ↔ s.dev = .noparam ∧ e = .notConstructed := by
  simp only [diffuBody, check_eq_error, reduceCtorEq, and_false, or_false, eq_comm (b := e)]

theorem linBody_eq_error : linBody c vd vs1 len s = .error e ↔
    s.dev = .noparam ∧ e = .notConstructed ∨
    ¬ s.dev = .noparam ∧ (len ≠ 36 ∨ ¬ AllCanonical (s.vec vs1) s.p) ∧ e = .invalidInput := by
  simp only [linBody, check_eq_error, reduceCtorEq, two_checks, eq_comm (b := e)]

theorem lbnBody_ne_error : lbnBody xd s ≠ .error e := by simp [lbnBody]

theorem dbnBody_ne_error : dbnBody xd s ≠ .error e := by simp [dbnBody]

theorem rcBody_eq_error : rcBody c vd xa xb s = .error e ↔
    s.dev = .noparam ∧ e = .notConstructed ∨ s.dev = .unconfigured ∧ e = .notInitialized ∨
    s.dev = .ready ∧ (¬ (InRange32 (s.scalar xa) ∧ InRange32 (s.scalar xb)) ∧ e = .invalidInput ∨
      (InRange32 (s.scalar xa) ∧ InRange32 (s.scalar xb)) ∧
      roundConstant c s.nonceBytes (s.scalar xa).toNat (s.scalar xb).toNat s.p = none ∧ e = .primitiveFailure) := by
  simp only [rcBody, check_eq_error, hashed_eq_error, eq_comm (b := e)]
  cases s.dev <;> simp [-not_and]

theorem rkeyBody_eq_error : rkeyBody vd vs1 vs2 len s = .error e ↔
    s.dev = .noparam ∧ e = .notConstructed ∨
    ¬ s.dev = .noparam ∧
      (len ≠ 36 ∨ ¬ (AllCanonical (s.vec vs1) s.p ∧ AllCanonical (s.vec vs2) s.p)) ∧ e = .invalidInput := by
  simp only [rkeyBody, check_eq_error, reduceCtorEq, two_checks, eq_comm (b := e)]

theorem arkBody_eq_error : arkBody vd vs1 vs2 len s = .error e ↔
    s.dev = .noparam ∧ e = .notConstructed ∨
    ¬ s.dev = .noparam ∧
      (len ≠ 36 ∨ ¬ (AllCanonical (s.vec vs1) s.p ∧ AllCanonical (s.vec vs2) s.p)) ∧ e = .invalidInput := by
  simp only [arkBody, check_eq_error, reduceCtorEq, two_checks, eq_comm (b := e)]

theorem configBody_eq_error : configBody lvl m6 s = .error e ↔
    (¬ ModulusOk s.prime ∨ lvl > 1 ∨ m6 > 36) ∧ e = .invalidParameter := by
  simp only [configBody, check_eq_error, reduceCtorEq, and_false, or_false, eq_comm (b := e)]
  tauto

theorem initBody_eq_error : initBody vs1 len s = .error e ↔
    s.dev = .noparam ∧ e = .notConstructed ∨
    ¬ s.dev = .noparam ∧
      (len ≠ 36 ∨ ¬ AllCanonical (s.vec vs1) s.p ∨ s.nonceLen.toNat > Config.NMAX) ∧ e = .invalidInput := by
  simp only [initBody, check_eq_error, reduceCtorEq, and_false, or_false, eq_comm (b := e)]
  tauto

theorem roundBody_eq_error : roundBody c vd vs1 vs2 len s = .error e ↔
    s.dev = .noparam ∧ e = .notConstructed ∨
    ¬ s.dev = .noparam ∧
      (len ≠ 36 ∨ ¬ (AllCanonical (s.vec vs1) s.p ∧ AllCanonical (s.vec vs2) s.p)) ∧ e = .invalidInput := by
  simp only [roundBody, check_eq_error, reduceCtorEq, two_checks, eq_comm (b := e)]

theorem ksBody_eq_error : ksBody c xa s = .error e ↔
    s.dev = .noparam ∧ e = .notConstructed ∨ s.dev = .unconfigured ∧ e = .notInitialized ∨
    s.dev = .ready ∧
      ((¬ InRange32 (s.scalar xa) ∨ keystreamLength (s.scalar xa).toNat s.trunc.toNat > Config.OUT_DEPTH) ∧
          e = .invalidInput ∨
        InRange32 (s.scalar xa) ∧ ¬ keystreamLength (s.scalar xa).toNat s.trunc.toNat > Config.OUT_DEPTH ∧
          runBlocks c s (s.scalar xa).toNat 0 = none ∧ e = .primitiveFailure) := by
  simp only [ksBody, check_eq_error, hashed_eq_error, not_not, eq_comm (b := e)]
  generalize s.dev = d
  cases d <;> simp only [reduceCtorEq, false_and, true_and, not_true_eq_false, not_false_eq_true, or_false, false_or]
  tauto

end

end Sys2Proof.Machine
end

