-- ==== Sys2Proof/Laws/Bus.lean ====
section
/-! SUPPORT. The address map (R73), address by address, and what host accesses do. -/

namespace Sys2Proof.Machine

/-! ## From an address to what it selects -/

@[simp] theorem target_cmd : target 0#32 = .cmd := rfl
@[simp] theorem target_status : target 1#32 = .status := rfl
@[simp] theorem target_prime : target 2#32 = .prime := rfl
@[simp] theorem target_p : target 3#32 = .p := rfl
@[simp] theorem target_rounds : target 4#32 = .rounds := rfl
@[simp] theorem target_trunc : target 5#32 = .trunc := rfl
@[simp] theorem target_nonceLen : target 6#32 = .nonceLen := rfl
@[simp] theorem target_outLen : target 7#32 = .outLen := rfl

/-- Above the single registers the map is that of the arrays. -/
theorem targetOf_of_le {n : Nat} (h : 8 ≤ n) : targetOf n = arrayTarget n := by
  obtain ⟨m, rfl⟩ := Nat.exists_eq_add_of_le' h
  rfl

theorem targetOf_x (r : XReg) : targetOf (0x10 + r.val) = .x r := by
  rw [targetOf_of_le (by omega), arrayTarget, dif_pos (by omega), Target.x.injEq, Fin.ext_iff]
  exact Nat.add_sub_cancel_left _ _

theorem targetOf_v (r : VReg) (k : Fin 36) : targetOf (0x100 + 64 * r.val + k.val) = .v r k := by
  rw [targetOf_of_le (by omega), arrayTarget, dif_neg (by omega), dif_pos (by omega), Target.v.injEq, Fin.ext_iff,
    Fin.ext_iff]
  exact ⟨by dsimp only; omega, by dsimp only; omega⟩

theorem targetOf_nonceBuf (b : Fin 64) : targetOf (0x1000 + b.val) = .nonceBuf b := by
  rw [targetOf_of_le (by omega), arrayTarget, dif_neg (by omega), dif_neg (by omega), dif_pos (by omega),
    Target.nonceBuf.injEq, Fin.ext_iff]
  exact Nat.add_sub_cancel_left _ _

theorem targetOf_out (n : Fin 4096) : targetOf (0x100000 + n.val) = .out n := by
  rw [targetOf_of_le (by omega), arrayTarget, dif_neg (by omega), dif_neg (by omega), dif_neg (by omega),
    dif_pos (by omega), Target.out.injEq, Fin.ext_iff]
  exact Nat.add_sub_cancel_left _ _

/-! ## From what is selected to the address -/

/-- The address of what a host can select (R73). -/
def Target.address : Target → Option Nat
  | .cmd => some 0
  | .status => some 1
  | .prime => some 2
  | .p => some 3
  | .rounds => some 4
  | .trunc => some 5
  | .nonceLen => some 6
  | .outLen => some 7
  | .x r => some (0x10 + r.val)
  | .v r k => some (0x100 + 64 * r.val + k.val)
  | .nonceBuf b => some (0x1000 + b.val)
  | .out n => some (0x100000 + n.val)
  | .reserved => none

/-- Whatever an address selects stands at that address, and nowhere else. -/
theorem address_targetOf (n : Nat) : (targetOf n).address = some n ∨ targetOf n = .reserved := by
  by_cases h : 8 ≤ n
  · rw [targetOf_of_le h, arrayTarget]
    split
    · left; simp [Target.address]; omega
    · split
      · left; simp [Target.address]; omega
      · split
        · left; simp [Target.address]; omega
        · split
          · left; simp [Target.address]; omega
          · exact .inr rfl
  · obtain rfl | rfl | rfl | rfl | rfl | rfl | rfl | rfl :
        n = 0 ∨ n = 1 ∨ n = 2 ∨ n = 3 ∨ n = 4 ∨ n = 5 ∨ n = 6 ∨ n = 7 := by omega
    all_goals exact .inl rfl

/-- The map is injective on what it maps. -/
theorem target_inj {a b : Word} (h : target a = target b) (hr : target a ≠ .reserved) : a = b := by
  rcases address_targetOf a.toNat with ha | ha
  · rcases address_targetOf b.toNat with hb | hb
    · apply BitVec.eq_of_toNat_eq
      unfold target at h
      rw [h, hb] at ha
      simpa using ha.symm
    · exact absurd (h.trans hb) hr
  · exact absurd ha hr

/-! ## What host accesses do -/

section
variable {s : State} {a : Word} {n : Nat}

theorem hostWrite_of_busy (h : s.busy = true) : hostWrite a n s = s.setOverrun := by
  simp [hostWrite, h]

theorem hostWrite_of_idle (h : s.busy = false) : hostWrite a n s = idleWrite (target a) n s := by
  simp [hostWrite, h]

theorem hostRead_of_busy (h : s.busy = true) :
    hostRead a s = (s.reply (busyRead (Config.busyRead s.draws) s (target a))).countDraw := by
  simp [hostRead, h]

theorem hostRead_of_idle (h : s.busy = false) : hostRead a s = s.reply (idleRead s (target a)) := by
  simp [hostRead, h]

/-- What a host write can be: OVR set, or one of the writes of an idle CORE. -/
theorem hostWrite_cases (a : Word) (n : Nat) (s : State) :
    (s.busy = true ∧ hostWrite a n s = s.setOverrun) ∨
    (s.busy = false ∧
      (hostWrite a n s = s ∨ (target a = .cmd ∧ hostWrite a n s = s.accept (BitVec.ofNat 32 n)) ∨
        (target a = .status ∧ n.testBit 8 = true ∧ hostWrite a n s = s.clearOverrun) ∨
        (target a = .prime ∧ hostWrite a n s = s.setPrime (BitVec.ofNat 64 n)) ∨
        (target a = .nonceLen ∧ hostWrite a n s = s.setNonceLen (BitVec.ofNat 16 n)) ∨
        (∃ r, target a = .x r ∧ hostWrite a n s = s.setScalar r n) ∨
        (∃ r k, target a = .v r k ∧ hostWrite a n s = s.setElem r k (BitVec.ofNat 64 n)) ∨
        ∃ b, target a = .nonceBuf b ∧ hostWrite a n s = s.setNonceByte b (BitVec.ofNat 8 n))) := by
  cases h : s.busy
  · right
    rw [hostWrite_of_idle h]
    cases ht : target a <;> simp [idleWrite]
    by_cases hb : n.testBit 8 = true <;> simp [hb]
  · exact .inl ⟨rfl, hostWrite_of_busy h⟩

end

end Sys2Proof.Machine
end

