-- ==== Sys2Proof/Laws/Memory.lean ====
section
/-! SUPPORT. The laws of the keystream memory OUT (R44): what a read returns after a write, and that every operation
keeps the canonical form. -/

namespace Sys2Proof.Machine

theorem Memory.wf_nil : Memory.wf [] := ⟨List.Pairwise.nil, fun _ h => absurd h List.not_mem_nil⟩

theorem Memory.wf_tail {c : Nat × Elem} {m : Memory} (h : Memory.wf (c :: m)) : Memory.wf m :=
  ⟨(List.pairwise_cons.mp h.1).2, fun d hd => h.2 d (List.mem_cons_of_mem _ hd)⟩

/-- Every index of the tail of a canonical memory is above the head's. -/
theorem Memory.head_lt {c d : Nat × Elem} {m : Memory} (h : Memory.wf (c :: m)) (hd : d ∈ m) : c.1 < d.1 :=
  (List.pairwise_cons.mp h.1).1 d hd

/-- An index that no entry lists reads as blank. -/
theorem Memory.read_of_forall_ne {m : Memory} {n : Nat} (h : ∀ c ∈ m, c.1 ≠ n) : Memory.read m n = Memory.blank := by
  induction m with
  | nil => rfl
  | cons c m ih =>
    rw [Memory.read, if_neg (h c List.mem_cons_self)]
    exact ih fun d hd => h d (List.mem_cons_of_mem _ hd)

theorem Memory.read_enter {m : Memory} {n k : Nat} {e : Elem} (h : ∀ c ∈ m, n < c.1) :
    Memory.read (Memory.enter n e m) k = if n = k then e else Memory.read m k := by
  unfold Memory.enter
  by_cases he : e = Memory.blank
  · by_cases hk : n = k
    · subst hk
      rw [if_pos he, if_pos rfl, he]
      exact Memory.read_of_forall_ne fun c hc => Nat.ne_of_gt (h c hc)
    · simp [he, hk]
  · simp [he, Memory.read]

/-- Reading after an insertion: the written element at its index, every other index as before. -/
theorem Memory.read_insert {m : Memory} (hm : Memory.wf m) (n k : Nat) (e : Elem) :
    Memory.read (Memory.insert n e m) k = if n = k then e else Memory.read m k := by
  induction m with
  | nil => exact Memory.read_enter fun _ h => absurd h List.not_mem_nil
  | cons c m ih =>
    have htail := Memory.wf_tail hm
    unfold Memory.insert
    by_cases h1 : n < c.1
    · rw [if_pos h1]
      refine Memory.read_enter fun d hd => ?_
      rcases List.mem_cons.mp hd with rfl | hd
      · exact h1
      · exact Nat.lt_trans h1 (Memory.head_lt hm hd)
    · rw [if_neg h1]
      by_cases h2 : c.1 = n
      · rw [if_pos h2, Memory.read_enter fun d hd => h2 ▸ Memory.head_lt hm hd]
        by_cases hk : n = k
        · simp [hk]
        · simp [Memory.read, h2, hk]
      · rw [if_neg h2, Memory.read, Memory.read, ih htail]
        by_cases hk : n = k
        · subst hk; simp [h2]
        · simp [hk]

theorem Memory.mem_enter {m : Memory} {n : Nat} {e : Elem} {c : Nat × Elem} (h : c ∈ Memory.enter n e m) :
    c = (n, e) ∨ c ∈ m := by
  unfold Memory.enter at h
  split at h
  · exact .inr h
  · exact List.mem_cons.mp h

theorem Memory.mem_insert {m : Memory} {n : Nat} {e : Elem} {c : Nat × Elem} (h : c ∈ Memory.insert n e m) :
    c = (n, e) ∨ c ∈ m := by
  induction m with
  | nil => exact Memory.mem_enter h
  | cons d m ih =>
    unfold Memory.insert at h
    split at h
    · exact Memory.mem_enter h
    · split at h
      · exact (Memory.mem_enter h).imp_right (List.mem_cons_of_mem _)
      · rcases List.mem_cons.mp h with rfl | h
        · exact .inr List.mem_cons_self
        · exact (ih h).imp_right (List.mem_cons_of_mem _)

theorem Memory.wf_enter {m : Memory} {n : Nat} {e : Elem} (hm : Memory.wf m) (hn : n < Config.OUT_DEPTH)
    (h : ∀ c ∈ m, n < c.1) : Memory.wf (Memory.enter n e m) := by
  unfold Memory.enter
  split
  · exact hm
  · next he =>
    refine ⟨List.pairwise_cons.mpr ⟨h, hm.1⟩, fun c hc => ?_⟩
    rcases List.mem_cons.mp hc with rfl | hc
    · exact ⟨hn, he⟩
    · exact hm.2 c hc

/-- An insertion keeps the canonical form. -/
theorem Memory.wf_insert {m : Memory} (hm : Memory.wf m) {n : Nat} (hn : n < Config.OUT_DEPTH) (e : Elem) :
    Memory.wf (Memory.insert n e m) := by
  induction m with
  | nil => exact Memory.wf_enter Memory.wf_nil hn fun _ h => absurd h List.not_mem_nil
  | cons c m ih =>
    have htail := Memory.wf_tail hm
    unfold Memory.insert
    split
    · next h1 =>
      refine Memory.wf_enter hm hn fun d hd => ?_
      rcases List.mem_cons.mp hd with rfl | hd
      · exact h1
      · exact Nat.lt_trans h1 (Memory.head_lt hm hd)
    · next h1 =>
      split
      · next h2 => exact Memory.wf_enter htail hn fun d hd => h2 ▸ Memory.head_lt hm hd
      · next h2 =>
        refine ⟨List.pairwise_cons.mpr ⟨fun d hd => ?_, (ih htail).1⟩, fun d hd => ?_⟩
        · rcases Memory.mem_insert hd with rfl | hd
          · exact Nat.lt_of_le_of_ne (Nat.not_lt.mp h1) h2
          · exact Memory.head_lt hm hd
        · rcases List.mem_cons.mp hd with rfl | hd
          · exact hm.2 _ List.mem_cons_self
          · exact (ih htail).2 d hd

/-- A write keeps the canonical form. -/
theorem Memory.wf_write {m : Memory} (hm : Memory.wf m) (n : Nat) (e : Elem) : Memory.wf (m.write n e) := by
  unfold Memory.write
  split
  · next h => exact Memory.wf_insert hm h e
  · exact hm

/-- Reading after a write to an index of OUT. -/
theorem Memory.read_write {m : Memory} (hm : Memory.wf m) {n : Nat} (hn : n < Config.OUT_DEPTH) (k : Nat) (e : Elem) :
    (m.write n e).read k = if n = k then e else m.read k := by
  rw [Memory.write, if_pos hn, Memory.read_insert hm]

/-- Writing a list of elements keeps the canonical form. -/
theorem Memory.wf_writeList {m : Memory} (hm : Memory.wf m) (n : Nat) (es : List Elem) : Memory.wf (m.writeList n es) := by
  induction es generalizing m n with
  | nil => exact hm
  | cons e es ih => exact ih (Memory.wf_write hm n e) (n + 1)

/-- Reading after a list of elements is written at n, n+1, ... inside OUT. -/
theorem Memory.read_writeList {m : Memory} (hm : Memory.wf m) {n : Nat} (es : List Elem)
    (hn : n + es.length ≤ Config.OUT_DEPTH) (k : Nat) :
    (m.writeList n es).read k = if h : n ≤ k ∧ k < n + es.length then es[k - n]'(by omega) else m.read k := by
  induction es generalizing m n with
  | nil =>
    have : ¬ (n ≤ k ∧ k < n + ([] : List Elem).length) := by simp
    rw [dif_neg this]; rfl
  | cons e es ih =>
    rw [List.length_cons] at hn
    rw [Memory.writeList, ih (Memory.wf_write hm n e) (by omega), Memory.read_write hm (by omega)]
    by_cases h1 : n = k
    · subst h1
      rw [dif_neg (by omega), if_pos rfl, dif_pos (by simp)]
      simp
    · rw [if_neg h1]
      by_cases h2 : n + 1 ≤ k ∧ k < n + 1 + es.length
      · have h3 : k - n = (k - (n + 1)) + 1 := by omega
        rw [dif_pos h2, dif_pos (by rw [List.length_cons]; omega)]
        simp [h3]
      · rw [dif_neg h2, dif_neg (by rw [List.length_cons]; omega)]

/-- A memory built from any pairs is canonical. -/
theorem Memory.wf_ofPairs (ps : List (Nat × Elem)) : Memory.wf (Memory.ofPairs ps) := by
  suffices h : ∀ m : Memory, Memory.wf m → Memory.wf (ps.foldl (fun m c => m.write c.1 c.2) m) from h [] Memory.wf_nil
  induction ps with
  | nil => exact fun m hm => hm
  | cons c ps ih => exact fun m hm => ih _ (Memory.wf_write hm c.1 c.2)

end Sys2Proof.Machine
end

