-- ==== Sys2Proof/Laws/PerInstr.lean ====
section
/-! SUPPORT. One law per constructor of `Instr`: the word of a well-formed command carries the opcode of its row, whatever its
operands (R101, R109, R114). -/

namespace Sys2Proof.Laws.EncodeCarriesOpcode

/-- The OPC field of the word of a well-formed instruction is that of its row. -/
def Statement (i : Instr) : Prop := WellFormed i → opcField (encode i) = i.mnemonic.opc

/-- Fields that fit their places do not reach the OPC field (R101). -/
theorem opcField_assemble (c : Mnemonic) {vd vs1 vs2 len xa xb xd : Nat} (h1 : vd < 4) (h2 : vs1 < 4) (h3 : vs2 < 4)
    (h4 : len < 64) (h5 : xa < 4) (h6 : xb < 4) (h7 : xd < 4) :
    opcField (assemble c vd vs1 vs2 len xa xb xd) = c.opc := by
  have hc : c.opc < 256 := by cases c <;> decide
  simp only [opcField, field, assemble, BitVec.toNat_ofNat]
  omega

theorem sbox (vd vs1 : VReg) (len : Nat) : Statement (.sbox vd vs1 len) := fun h =>
  opcField_assemble .SBOX vd.isLt vs1.isLt (by decide) (of_decide_eq_true h) (by decide) (by decide) (by decide)

theorem sboxl (vd vs1 : VReg) (len : Nat) : Statement (.sboxl vd vs1 len) := fun h =>
  opcField_assemble .SBOXL vd.isLt vs1.isLt (by decide) (of_decide_eq_true h) (by decide) (by decide) (by decide)

theorem isperm (xd : XReg) : Statement (.isperm xd) := fun _ =>
  opcField_assemble .ISPERM (by decide) (by decide) (by decide) (by decide) (by decide) (by decide) xd.isLt

theorem diffu (xd : XReg) : Statement (.diffu xd) := fun _ =>
  opcField_assemble .DIFFU (by decide) (by decide) (by decide) (by decide) (by decide) (by decide) xd.isLt

theorem lin (vd vs1 : VReg) (len : Nat) : Statement (.lin vd vs1 len) := fun h =>
  opcField_assemble .LIN vd.isLt vs1.isLt (by decide) (of_decide_eq_true h) (by decide) (by decide) (by decide)

theorem lbn (xd : XReg) : Statement (.lbn xd) := fun _ =>
  opcField_assemble .LBN (by decide) (by decide) (by decide) (by decide) (by decide) (by decide) xd.isLt

theorem dbn (xd : XReg) : Statement (.dbn xd) := fun _ =>
  opcField_assemble .DBN (by decide) (by decide) (by decide) (by decide) (by decide) (by decide) xd.isLt

theorem rc (vd : VReg) (xa xb : XReg) : Statement (.rc vd xa xb) := fun _ =>
  opcField_assemble .RC vd.isLt (by decide) (by decide) (by decide) xa.isLt xb.isLt (by decide)

theorem rkey (vd vs1 vs2 : VReg) (len : Nat) : Statement (.rkey vd vs1 vs2 len) := fun h =>
  opcField_assemble .RKEY vd.isLt vs1.isLt vs2.isLt (of_decide_eq_true h) (by decide) (by decide) (by decide)

theorem ark (vd vs1 vs2 : VReg) (len : Nat) : Statement (.ark vd vs1 vs2 len) := fun h =>
  opcField_assemble .ARK vd.isLt vs1.isLt vs2.isLt (of_decide_eq_true h) (by decide) (by decide) (by decide)

theorem config (lvl m6 : Nat) : Statement (.config lvl m6) := fun h =>
  opcField_assemble .CONFIG (of_decide_eq_true (Bool.and_eq_true_iff.mp h).1) (by decide) (by decide) (of_decide_eq_true (Bool.and_eq_true_iff.mp h).2) (by decide) (by decide) (by decide)

theorem init (vs1 : VReg) (len : Nat) : Statement (.init vs1 len) := fun h =>
  opcField_assemble .INIT (by decide) vs1.isLt (by decide) (of_decide_eq_true h) (by decide) (by decide) (by decide)

theorem round (vd vs1 vs2 : VReg) (len : Nat) : Statement (.round vd vs1 vs2 len) := fun h =>
  opcField_assemble .ROUND vd.isLt vs1.isLt vs2.isLt (of_decide_eq_true h) (by decide) (by decide) (by decide)

theorem ks (xa : XReg) : Statement (.ks xa) := fun _ =>
  opcField_assemble .KS (by decide) (by decide) (by decide) (by decide) xa.isLt (by decide) (by decide)

end Sys2Proof.Laws.EncodeCarriesOpcode
end

