-- ==== Sys2Proof/Laws/Step.lean ====
section
/-! SUPPORT. What one step can do, said once. -/

namespace Sys2Proof.Machine

section
variable {s : State} {ts : List Turn}

theorem step_engine (h : s.turns = .engine :: ts) : step s = engineTurn (s.setTurns ts) := by
  simp only [step, h]

theorem step_nil (h : s.turns = []) : step s = engineTurn s := by
  simp only [step, h]

theorem step_read {a : Word} (h : s.turns = .read a :: ts) : step s = .next (hostRead a (s.setTurns ts)) := by
  simp only [step, h]

theorem step_write {a : Word} {n : Nat} (h : s.turns = .write a n :: ts) :
    step s = .next (hostWrite a n (s.setTurns ts)) := by
  simp only [step, h]

theorem step_reset (h : s.turns = .reset :: ts) : step s = .next (takeReset (s.setTurns ts)) := by
  simp only [step, h]

/-- The engine's turn: nothing pending, an illegal word, a body that raised a code, or a body that succeeded. -/
theorem engineTurn_cases (s : State) :
    (s.pend = none ∧ engineTurn s = .next s) ∨
    (∃ w e, s.pend = some w ∧ decode w = .error e ∧ engineTurn s = .next (s.raise .illegalCommand).finish) ∨
    (∃ w i e, s.pend = some w ∧ decode w = .ok i ∧ bodyOf i s = .error e ∧
      engineTurn s = .next (s.raise e).finish) ∨
    ∃ w i t, s.pend = some w ∧ decode w = .ok i ∧ bodyOf i s = .ok t ∧ engineTurn s = .next t.succeed.finish := by
  unfold engineTurn
  cases hp : s.pend with
  | none => exact .inl ⟨rfl, rfl⟩
  | some w =>
    refine .inr ?_
    cases hd : decode w with
    | error e => exact .inl ⟨w, e, rfl, hd, complete_of_decode_error hd s⟩
    | ok i =>
      refine .inr ?_
      simp only [complete_of_decode_ok hd, exec_eq_settle]
      cases hb : bodyOf i s with
      | error e => exact .inl ⟨w, i, e, rfl, hd, hb, rfl⟩
      | ok t => exact .inr ⟨w, i, t, rfl, hd, hb, rfl⟩

/-- One step: the engine's turn, a host access, or reset. -/
theorem step_cases (s : State) :
    (∃ ts, (s.turns = .engine :: ts ∨ s.turns = [] ∧ ts = []) ∧ step s = engineTurn (s.setTurns ts)) ∨
    (∃ a ts, s.turns = .read a :: ts ∧ step s = .next (hostRead a (s.setTurns ts))) ∨
    (∃ a n ts, s.turns = .write a n :: ts ∧ step s = .next (hostWrite a n (s.setTurns ts))) ∨
    ∃ ts, s.turns = .reset :: ts ∧ step s = .next (takeReset (s.setTurns ts)) := by
  cases h : s.turns with
  | nil => exact .inl ⟨[], .inr ⟨rfl, rfl⟩, by rw [step_nil h, s.setTurns_self h]⟩
  | cons u ts =>
    cases u with
    | engine => exact .inl ⟨ts, .inl rfl, step_engine h⟩
    | read a => exact .inr (.inl ⟨a, ts, rfl, step_read h⟩)
    | write a n => exact .inr (.inr (.inl ⟨a, n, ts, rfl, step_write h⟩))
    | reset => exact .inr (.inr (.inr ⟨ts, rfl, step_reset h⟩))

end

end Sys2Proof.Machine
end

