-- ==== Sys2Proof/Laws/Vectors.lean ====
section
/-! SUPPORT. The elements of the vectors the commands compute, and the length of a keystream. -/

namespace Sys2Proof.Machine

section
variable {p : Elem} (hp : 0 < p.toNat)
include hp

/-- Element k of a sum (R206). -/
theorem toNat_addVec (a b : Vec) (k : Fin 36) :
    (addVec p a b)[k].toNat = (a[k].toNat + b[k].toNat) % p.toNat := by
  rw [addVec, getElem_tabulate_fin, toNat_elemMod _ hp]
  exact mod_natCast _ _

/-- Element k of a product (R205). -/
theorem toNat_mulVec (a b : Vec) (k : Fin 36) :
    (mulVec p a b)[k].toNat = a[k].toNat * b[k].toNat % p.toNat := by
  rw [mulVec, getElem_tabulate_fin, toNat_elemMod _ hp]
  exact mod_natCast _ _

/-- Element r of the linear layer (R171). -/
theorem toNat_linearLayer (c : Params) (x : Vec) (r : Fin 36) :
    (linearLayer c p x)[r].toNat = rowSum c x r % p.toNat := by
  rw [linearLayer, getElem_tabulate_fin, toNat_elemMod _ hp]
  exact mod_natCast _ _

/-- Element i of the counter vector of block j (R245). -/
theorem toNat_counterVector (j : Nat) (i : Fin 36) :
    (counterVector p j)[i].toNat = (i.val + 1 + j) % p.toNat := by
  rw [counterVector, getElem_tabulate_fin, toNat_elemMod _ hp]
  exact mod_natCast _ _

theorem canonical_addVec (a b : Vec) : AllCanonical (addVec p a b) p := by
  intro k; rw [addVec, getElem_tabulate_fin]; exact canonical_elemMod _ hp

theorem canonical_mulVec (a b : Vec) : AllCanonical (mulVec p a b) p := by
  intro k; rw [mulVec, getElem_tabulate_fin]; exact canonical_elemMod _ hp

theorem canonical_linearLayer (c : Params) (x : Vec) : AllCanonical (linearLayer c p x) p := by
  intro k; rw [linearLayer, getElem_tabulate_fin]; exact canonical_elemMod _ hp

end

/-- The row sum as a sum over the columns. -/
theorem rowSum_eq_sum (c : Params) (x : Vec) (r : Fin 36) :
    rowSum c x r = ∑ k : Fin 36, if c.matrix r k then x[k].toNat else 0 := by
  rw [rowSum, List.sum_ofFn]

/-- The blocks run are as many as asked for. -/
theorem length_runBlocks {c : Params} {s : State} {n j : Nat} {qs : List Sequencer}
    (h : runBlocks c s n j = some qs) : qs.length = n := by
  induction n generalizing j qs with
  | zero => simp [runBlocks] at h; simp [← h]
  | succ n ih =>
    unfold runBlocks at h
    split at h
    · simp at h
    · split at h
      · simp at h
      · next hq => simp at h; rw [← h, List.length_cons, ih hq]

/-- Every block emits 36 - m elements (R246 step 4). -/
theorem length_emit (m : Nat) (q : Sequencer) : (q.emit m).length = 36 - m := by
  simp [Sequencer.emit]

/-- The keystream has as many elements as the capacity check counts (R43, R244). -/
theorem length_keystream (m : Nat) (qs : List Sequencer) : (keystream m qs).length = keystreamLength qs.length m := by
  induction qs with
  | nil => simp [keystream, keystreamLength]
  | cons q qs ih =>
    rw [keystream, List.flatMap_cons, List.length_append, length_emit, ← keystream, ih, keystreamLength, keystreamLength,
      List.length_cons, Nat.succ_mul, Nat.add_comm]

end Sys2Proof.Machine
end

