-- ==== Sys2Proof/Tests/Slice0.lean ====
section
/-! SUPPORT. The model's own tests. Every expected value is one of spec/95 (named T-… or P…) or follows by hand from the
rule named. After them, for each obligation with hypotheses, a theorem that shows they can be met together. -/

namespace Sys2Proof.Tests

set_option Elab.async false

open Sys2Proof Sys2Proof.Machine Sys2Proof.Claims

/-! ## Small states -/

/-- The vector of the listed numbers, then zeros. -/
def vecOf (l : List Nat) : Vec := tabulate fun k => BitVec.ofNat 64 (l.getD k.val 0)

/-- (1, 2, ..., 36). -/
def counting : Vec := tabulate fun k => BitVec.ofNat 64 (k.val + 1)

/-- (n, n, ..., n). -/
def constant (n : Nat) : Vec := Vector.replicate 36 (BitVec.ofNat 64 n)

/-- The nonce N8 of spec/95: 01 02 03 04 05 06 07 08. -/
def n8 : Vector Byte 64 := tabulate fun b => if b.val < 8 then BitVec.ofNat 8 (b.val + 1) else 0

/-- After T-CF-1: p65, SEC80, m = 12. -/
def unconfigured : State :=
  { State.reset with prime := 65537, p := 65537, rounds := 5, trunc := 12, dev := .unconfigured }

/-- After T-IN-1: KEY = (1, ..., 1), N8. V is zero. -/
def ready : State :=
  { unconfigured with dev := .ready, nonceBuf := n8, nonceLen := 8, key := constant 1, nonce := n8, nl := 8 }

/-- The default parameters with another matrix. -/
def withMatrix (m : Fin 36 → Fin 36 → Bool) : Params := { params with matrix := m }

/-- The stand-in I36. -/
def i36 : Params := withMatrix fun r c => r == c

/-- The stand-in J36. -/
def j36 : Params := withMatrix fun _ _ => true

/-- The stand-in SH36. -/
def sh36 : Params := withMatrix fun r c => c.val == (r.val + 1) % 36

/-- The next state, if there is one. -/
def nextOf (o : Host.Outcome State Fault Refusal) : Option State :=
  match o with
  | .next t => some t
  | .fault _ => none
  | .refused _ => none

/-- What `f` sees of the state a command leaves. -/
def seen {α : Type} (i : Instr) (s : State) (f : State → α) : Option α := (nextOf (exec i s)).map f

/-- What `f` sees of the state a body leaves, for a body run with other parameters. -/
def bodySeen {α : Type} (b : State → Except ErrCode State) (s : State) (f : State → α) : Option α :=
  (nextOf (settle (b s) s)).map f

/-- The error code a command leaves. -/
def codeOf (i : Instr) (s : State) : Option ErrCode := seen i s (·.err)

/-- The elements of V[r] from k on, n of them. -/
def elems (r : VReg) (k n : Nat) (s : State) : List Nat := (((s.vec r).toList.drop k).take n).map (·.toNat)

/-- The state a number of steps from s leaves. -/
def after (k : Nat) (s : State) : Option State :=
  match Host.Core.run Sys2Proof.core k s with
  | .next t => some t
  | .fault _ => none
  | .refused _ => none

/-! ## WellFormed refuses a number that does not fit its field -/

theorem test_wf_sbox : ¬ WellFormed (.sbox 0 0 64) := by decide
theorem test_wf_sboxl : ¬ WellFormed (.sboxl 0 0 64) := by decide
theorem test_wf_lin : ¬ WellFormed (.lin 0 0 64) := by decide
theorem test_wf_rkey : ¬ WellFormed (.rkey 0 0 0 64) := by decide
theorem test_wf_ark : ¬ WellFormed (.ark 0 0 0 64) := by decide
theorem test_wf_config_lvl : ¬ WellFormed (.config 4 0) := by decide
theorem test_wf_config_m6 : ¬ WellFormed (.config 0 64) := by decide
theorem test_wf_init : ¬ WellFormed (.init 0 64) := by decide
theorem test_wf_round : ¬ WellFormed (.round 0 0 0 64) := by decide
theorem test_wf_accepts : WellFormed (.sbox 3 3 63) ∧ WellFormed (.config 3 63) ∧ WellFormed (.ks 3) := by decide

/-! ## Decoding: each word is written field by field in the order of R101 -/

/-- OPC, VD, VS1, VS2, LEN, XA, XB, XD and the six bits [5:0] (R101). -/
def fields (opc : BitVec 8) (vd vs1 vs2 : BitVec 2) (len : BitVec 6) (xa xb xd : BitVec 2) (low : BitVec 6) : Word :=
  opc ++ vd ++ vs1 ++ vs2 ++ len ++ xa ++ xb ++ xd ++ low

theorem test_fields_worked : fields 0x10 1 0 0 3 0 0 0 0 = 0x10403000 ∧ fields 0x30 1 0 0 0 0 1 0 0 = 0x30400100 := by
  decide
theorem test_decode_sbox : decode (fields 0x10 1 2 0 3 0 0 0 0) = .ok (.sbox 1 2 3) := by decide
theorem test_decode_sboxl : decode (fields 0x11 2 1 0 36 0 0 0 0) = .ok (.sboxl 2 1 36) := by decide
theorem test_decode_isperm : decode (fields 0x12 0 0 0 0 0 0 3 0) = .ok (.isperm 3) := by decide
theorem test_decode_diffu : decode (fields 0x13 0 0 0 0 0 0 1 0) = .ok (.diffu 1) := by decide
theorem test_decode_lin : decode (fields 0x20 3 1 0 36 0 0 0 0) = .ok (.lin 3 1 36) := by decide
theorem test_decode_lbn : decode (fields 0x21 0 0 0 0 0 0 2 0) = .ok (.lbn 2) := by decide
theorem test_decode_dbn : decode (fields 0x22 0 0 0 0 0 0 3 0) = .ok (.dbn 3) := by decide
theorem test_decode_rc : decode (fields 0x30 1 0 0 0 2 3 0 0) = .ok (.rc 1 2 3) := by decide
theorem test_decode_rkey : decode (fields 0x31 1 2 3 36 0 0 0 0) = .ok (.rkey 1 2 3 36) := by decide
theorem test_decode_ark : decode (fields 0x32 3 2 1 63 0 0 0 0) = .ok (.ark 3 2 1 63) := by decide
theorem test_decode_config : decode (fields 0x40 2 0 0 37 0 0 0 0) = .ok (.config 2 37) := by decide
theorem test_decode_init : decode (fields 0x41 0 3 0 35 0 0 0 0) = .ok (.init 3 35) := by decide
theorem test_decode_round : decode (fields 0x42 0 1 2 36 0 0 0 0) = .ok (.round 0 1 2 36) := by decide
theorem test_decode_ks : decode (fields 0x43 0 0 0 0 2 0 0 0) = .ok (.ks 2) := by decide
/-- T-DC-1, T-DC-2: reserved opcodes. -/
theorem test_decode_reserved : decode 0 = .error .reservedOpcode ∧ decode 0x44000000 = .error .reservedOpcode := by
  decide
/-- T-DC-3 to T-DC-5, T-SQ-6, T-LBN-3: nonzero reserved bits. -/
theorem test_decode_must_be_zero :
    decode 0x4300000F = .error .mustBeZero ∧ decode 0x43000100 = .error .mustBeZero ∧
    decode 0x10403001 = .error .mustBeZero ∧ decode 0x12000001 = .error .mustBeZero ∧
    decode 0x21000081 = .error .mustBeZero := by
  decide
/-- The words of R116 and of the P programs, from their commands. -/
theorem test_encode :
    encode (.rkey 2 3 1 36) = 0x31B64000 ∧ encode (.config 0 37) = 0x40025000 ∧ encode (.init 3 36) = 0x41324000 ∧
    encode (.rc 2 1 0) = 0x30800400 ∧ encode (.ark 1 1 2 36) = 0x325A4000 ∧ encode (.dbn 3) = 0x220000C0 := by
  decide
theorem test_decodeTableWord :
    decodeTableWord 32 0x43000800 = some (.ks 2) ∧ decodeTableWord 32 0x44000000 = none ∧ decodeTableWord 16 0x12000000 = none := by
  decide

/-! ## The commands, one step each -/

/-- T-SB-12, T-SB-1. -/
theorem test_sbox :
    seen (.sbox 1 0 3) ((unconfigured.setVec 0 (vecOf [1, 2, 3])).setVec 1 (constant 9)) (fun t => (t.err, elems 1 0 5 t)) =
      some (.ok, [1, 5, 4, 9, 9]) := by
  decide +kernel
/-- T-SB-4 in place, as T-SB-17: x0 = p - 1. -/
theorem test_sbox_in_place :
    seen (.sbox 0 0 3) (unconfigured.setVec 0 (vecOf [65536, 5, 7])) (elems 0 0 4) = some [65536, 65535, 5, 0] := by
  decide +kernel
/-- T-SBL-1. -/
theorem test_sboxl :
    seen (.sboxl 1 0 36) (unconfigured.setVec 0 counting) (elems 1 0 36) =
      some ([1, 5, 4, 4, 29, 10, 7, 71, 16, 10, 131, 22] ++ [13, 209, 28, 16, 305, 34, 19, 419, 40, 22, 551, 46] ++
        [25, 701, 52, 28, 869, 58, 31, 1055, 64, 34, 1259, 70]) := by
  decide +kernel
/-- T-SBL-5. -/
theorem test_sboxl_non_canonical :
    codeOf (.sboxl 1 0 36) (unconfigured.setVec 0 ((constant 1).set 35 65537)) = some .invalidInput := by
  decide +kernel
/-- T-SQ-2: the composite modulus 65555. -/
theorem test_isperm : seen (.isperm 0) { unconfigured with p := 65555 } (·.scalar 0) = some 1 := by decide +kernel
/-- T-SQ-4: a result above 64 bits. -/
theorem test_diffu :
    seen (.diffu 1) { unconfigured with p := 18446744073709551557 } (·.scalar 1) =
      some 340282366920938461286658806734041124249 := by
  decide +kernel
/-- T-LIN-5. -/
theorem test_lin_shift :
    bodySeen (linBody sh36 1 0 36) (unconfigured.setVec 0 counting) (elems 1 0 36) =
      some ((List.range 36).map fun k => (k + 1) % 36 + 1) := by
  decide +kernel
/-- T-LIN-3: 36 (p - 1) mod p, where an exclusive or would give 0. -/
theorem test_linear_ones : ∀ r : Fin 36, (linearLayer j36 65537 (constant 65536))[r] = 65501 := by decide +kernel
/-- T-LIN-10. -/
theorem test_lin_len : codeOf (.lin 1 1 35) ready = some .invalidInput := by decide +kernel
/-- T-LBN-1. -/
theorem test_lbn : seen (.lbn 2) State.reset (fun t => (t.err, t.scalar 2)) = some (.ok, 6) := by decide +kernel
/-- T-LBN-2. -/
theorem test_dbn : seen (.dbn 3) State.reset (fun t => (t.err, t.scalar 3)) = some (.ok, 10) := by decide +kernel
/-- T-RC-1, the first and last elements. -/
theorem test_rc :
    seen (.rc 1 0 1) ready (fun t => ((t.vec 1)[0], (t.vec 1)[35])) = some (36435, 38406) := by
  decide +kernel
/-- T-RC-10: i = X1 = 0 and j = X0 = 1, so the elements are those of T-RC-3. -/
theorem test_rc_order : seen (.rc 2 1 0) (ready.setScalar 0 1) (fun t => (t.vec 2)[1]) = some 18417 := by decide +kernel
/-- T-RC-H2: the block index stands before the round index. -/
theorem test_hash_input :
    hashInput params [1, 2, 3, 4, 5, 6, 7, 8] 2 1 = [1, 2, 3, 4, 5, 6, 7, 8, 0, 0, 0, 1, 0, 0, 0, 2] := by
  decide
/-- T-RC-7. -/
theorem test_force_nonzero :
    forceNonzero (elemMod (natOfBytes [0, 0, 0, 0, 0, 1, 0, 1]) 65537) = 1 ∧
    forceNonzero (elemMod (natOfBytes [0, 0, 0, 0, 0, 1, 0, 0]) 65537) = 65536 ∧
    forceNonzero (elemMod (natOfBytes [255, 255, 255, 255, 255, 255, 255, 197]) 18446744073709551557) = 1 := by
  decide +kernel
/-- T-RK-1. -/
theorem test_rkey :
    seen (.rkey 2 3 1 36) ((unconfigured.setVec 3 (constant 2)).setVec 1 ((constant 3).set 0 65536)) (elems 2 0 3) =
      some [65535, 6, 6] := by
  decide +kernel
/-- T-RK-5: VD = VS2. -/
theorem test_rkey_in_place :
    seen (.rkey 1 3 1 36) ((unconfigured.setVec 3 (constant 2)).setVec 1 (constant 3)) (elems 1 34 2) = some [6, 6] := by
  decide +kernel
/-- T-AK-1. -/
theorem test_ark :
    seen (.ark 0 0 2 36) ((unconfigured.setVec 0 ((constant 1).set 0 65536)).setVec 2 (constant 1)) (elems 0 0 3) =
      some [0, 2, 2] := by
  decide +kernel
/-- T-AK-3: the sum of two 64-bit elements does not wrap before it is reduced. -/
theorem test_ark_wide :
    seen (.ark 0 0 0 36) (({ unconfigured with p := 18446744073709551557 } : State).setVec 0 (constant 18446744073709551556))
      (elems 0 35 1) = some [18446744073709551555] := by
  decide +kernel
/-- T-CF-7. -/
theorem test_config :
    seen (.config 1 36) { State.reset with prime := 65537 } (fun t => (t.err, t.p, t.rounds, t.trunc, t.dev)) =
      some (.ok, 65537, 6, 36, .unconfigured) := by
  decide +kernel
/-- T-CF-12: a CONFIG that fails in READY leaves the configuration. -/
theorem test_config_fails :
    seen (.config 0 12) { ready with prime := 65539 } (fun t => (t.err, t.p, t.dev)) =
      some (.invalidParameter, 65537, .ready) := by
  decide +kernel
/-- T-IN-1. -/
theorem test_init :
    seen (.init 3 36) (({ unconfigured with nonceBuf := n8, nonceLen := 8 } : State).setVec 3 (constant 1))
      (fun t => (statusWord t, t.key[35], t.nonceBytes)) = some (4, 1, [1, 2, 3, 4, 5, 6, 7, 8]) := by
  decide +kernel
/-- T-IN-4: NONCE_LEN = NMAX + 1. -/
theorem test_init_long_nonce : codeOf (.init 3 36) { unconfigured with nonceLen := 65 } = some .invalidInput := by
  decide +kernel
/-- T-RD-2, with I36. -/
theorem test_round :
    bodySeen (roundBody i36 3 0 2 36) ((unconfigured.setVec 0 counting).setVec 2 (constant 1)) (elems 3 0 6) =
      some [2, 6, 5, 5, 30, 11] := by
  decide +kernel
/-- T-RD-3. -/
theorem test_round_len : codeOf (.round 0 0 2 35) ready = some .invalidInput := by decide +kernel
/-- T-KS-8: every block truncated to nothing. -/
theorem test_ks_empty :
    seen (.ks 2) (({ ready with trunc := 36, outLen := 24 } : State).setScalar 2 0) (fun t => (t.err, t.outLen, t.out)) =
      some (.ok, 0, []) := by
  decide +kernel
/-- T-KS-11: 171 * 24 = 4104 is more than OUT holds. -/
theorem test_ks_capacity :
    seen (.ks 1) ({ ready with outLen := 24 }.setScalar 1 171) (fun t => (t.err, t.outLen)) = some (.invalidInput, 24) := by
  decide +kernel
/-- T-SRC-8: KS with B = 1 and m = 12 returns 24 elements. -/
theorem test_ks_length :
    seen (.ks 2) (ready.setScalar 2 1) (fun t => (t.err, t.outLen)) = some (.ok, 24) := by
  decide +kernel
/-- T-KS-9, with I36: the whitened state. -/
theorem test_block_whitening :
    ((Sequencer.start ready 0).advance i36 ready).map (fun q => (q.phase, q.work.toList.take 2)) =
      some (.round, [36436, 19373]) := by
  decide +kernel
/-- T-KS-1, with I36: OUT[0]. -/
theorem test_block_output : (keystreamBlock i36 ready 0).map (·.take 1) = some [6594] := by decide +kernel

/-! ## The step, the bus and reset -/

/-- P4, its first line, from reset: KS in NOPARAM leaves STATUS = 0x50. -/
theorem test_step_from_reset :
    (after 1 (State.reset.withFetchWord 32 0x43000000)).map statusWord = some 0x50 := by
  decide +kernel
/-- P4: a reserved opcode in UNCONFIGURED leaves STATUS = 0x62. -/
theorem test_step_illegal : (after 1 (unconfigured.withFetchWord 32 0x44000000)).map statusWord = some 0x62 := by
  decide +kernel
/-- T-DC-6: in NOPARAM an illegal word is IllegalCommand, not NotConstructed. -/
theorem test_step_illegal_first :
    (after 1 (State.reset.withFetchWord 32 0x10403001)).map (·.err) = some .illegalCommand := by
  decide +kernel
/-- P4, outcome (a): the write to X0 comes before the completion of DBN. -/
theorem test_overrun :
    (after 3 { unconfigured with turns := Pseudo.cmd (encode (.dbn 3)) ++ Pseudo.xset 0 7 ++ [.engine] }).map
      (fun t => (statusWord t, t.scalar 0, t.scalar 3)) = some (0x102, 0, 10) := by
  decide +kernel
/-- P4, outcome (b): the write to X0 comes after the completion of DBN. -/
theorem test_no_overrun :
    (after 3 { unconfigured with turns := Pseudo.cmd (encode (.dbn 3)) ++ [.engine] ++ Pseudo.xset 0 7 }).map
      (fun t => (statusWord t, t.scalar 0, t.scalar 3)) = some (2, 7, 10) := by
  decide +kernel
/-- T-BUS-1 to T-BUS-4: reads of reserved addresses and of CMD return 0, a write to P is ignored. -/
theorem test_bus_ignored :
    (after 5 { ready with turns := [.read 8, .read 0x124, .read 0, .write 3 7, .write 8 7] }).map
      (fun t => (t.replies, t.p, t.turns)) = some ([0, 0, 0], 65537, []) := by
  decide +kernel
/-- T-BUS-5. -/
theorem test_overrun_clear :
    (after 1 { ready with ovr := true, turns := Pseudo.ovrclr }).map (·.ovr) = some false ∧
    (after 1 { ready with ovr := true, turns := Pseudo.wr 1 0 }).map (·.ovr) = some true := by
  decide +kernel
/-- R73: the last element of V3, the last byte of NONCE_BUF and the last element of OUT. -/
theorem test_address_map :
    target 0x1E3 = .v 3 35 ∧ target 0x103F = .nonceBuf 63 ∧ target 0x100FFF = .out 4095 ∧ target 0x13 = .x 3 ∧
    target 0x124 = .reserved ∧ target 0x1E4 = .reserved ∧ target 0x14 = .reserved ∧ target 0x1040 = .reserved ∧
    target 0x101000 = .reserved := by
  decide +kernel
/-- R51, R300: the reset input in READY with a command pending, the unspecified values left free. -/
theorem test_reset_input (d : ResetDraw) :
    let t := ({ ready with pend := some 0x43000800, ovr := true, outLen := 24 } : State).resetWith d
    t.busy = false ∧ statusWord t = 0 ∧ t.p = 0 ∧ t.outLen = 0 ∧ t.prime = d.prime := by
  exact ⟨rfl, (by decide : statusOf false 0 0 false = 0), rfl, rfl, rfl⟩

/-! ## The hypotheses of the obligations can be met -/

/-- The state ready with a command pending and the engine next. -/
def pending (w : Word) : State := ready.withFetchWord 32 w.toNat

/-- READY with one host access to come. -/
def accessing (u : Turn) : State := { ready with turns := [u] }

/-- A command pending, and one host access before the engine's turn. -/
def accessingBusy (u : Turn) : State := { ready with pend := some 0x220000C0, turns := [u] }

/-- ready meets the invariant. -/
theorem witness_inv : Inv ready where
  modulus := by decide +kernel
  rounds := by decide +kernel
  trunc := by decide +kernel
  unloaded := by decide +kernel
  key := by decide +kernel
  out := by decide +kernel
  outLen := by decide +kernel
  seq := rfl

/-- So does ready with any value in any scalar register. -/
theorem witness_inv_setScalar (x : XReg) (n : Nat) : Inv (ready.setScalar x n) where
  modulus := witness_inv.modulus
  rounds := witness_inv.rounds
  trunc := witness_inv.trunc
  unloaded := witness_inv.unloaded
  key := witness_inv.key
  out := witness_inv.out
  outLen := witness_inv.outLen
  seq := witness_inv.seq

theorem witness_StepRunsTheDecodedCommand :
    EngineNext (pending 0x220000C0) [] ∧ (pending 0x220000C0).pend = some 0x220000C0 ∧
      decode 0x220000C0 = .ok (.dbn 3) := by
  refine ⟨.inl rfl, rfl, by decide⟩
/-- A state with no turn to come, and the first clause of IdleCoreKeepsItsState. -/
theorem witness_EngineNext_idle : EngineNext ready [] ∧ ready.pend = none := ⟨.inr ⟨rfl, rfl⟩, rfl⟩
theorem witness_IllegalWordChangesOnlyErrAndBusy :
    (∀ row ∈ opcodeRows, (0x44000000 : Word) &&& row.2.2 ≠ row.2.1) ∧
    (∀ row ∈ opcodeRows, (0x10403001 : Word) &&& row.2.2 ≠ row.2.1) ∧ (pending 0x44000000).seq = none ∧
    EngineNext (pending 0x44000000) [] ∧ (pending 0x44000000).pend = some 0x44000000 ∧
    (accessing (.write 0 (0x44000000 : Word).toNat)).turns = .write 0 (0x44000000 : Word).toNat :: [] ∧
    (accessing (.write 0 (0x44000000 : Word).toNat)).pend = none := by
  refine ⟨by decide, by decide, rfl, .inl rfl, rfl, rfl, rfl⟩
theorem witness_StepKeepsInvariant : Inv ready ∧ step ready = .next ready := ⟨witness_inv, rfl⟩
theorem witness_AcceptedCommandCompletes :
    (accessingBusy (.read 1)).pend = some 0x220000C0 ∧ ∀ u ∈ (accessingBusy (.read 1)).turns, u ≠ .reset := by
  refine ⟨rfl, ?_⟩; decide
/-- Both ways into reset. -/
theorem witness_ResetLeavesSpecifiedValues :
    State.reset = State.reset ∧ (accessing .reset).turns = .reset :: [] ∧ ∃ t, step (accessing .reset) = .next t :=
  ⟨rfl, rfl, _, rfl⟩
theorem witness_ResetAbandonsThePendingCommand :
    (accessingBusy .reset).turns = .reset :: [] ∧ (accessingBusy .reset).pend = some 0x220000C0 ∧
    (∃ t, step (accessingBusy .reset) = .next t ∧ t.pend ≠ some 0x220000C0) ∧
    ∃ t, step (pending 0x220000C0) = .next t ∧ t.pend ≠ some 0x220000C0 :=
  ⟨rfl, rfl, ⟨_, rfl, by decide⟩, _, rfl, by decide⟩
/-- The largest value CMD holds, and one above it. -/
theorem witness_CommandWriteIsAccepted :
    (accessing (.write 0 0xFFFFFFFF)).turns = .write 0 0xFFFFFFFF :: [] ∧
    (accessing (.write 0 0xFFFFFFFF)).busy = false ∧
    (accessing (.write 0 0x143000800)).turns = .write 0 0x143000800 :: [] ∧
    (accessing (.write 0 0x143000800)).busy = false := ⟨rfl, rfl, rfl, rfl⟩
/-- Both clauses: a write while BUSY = 1, OVR cleared by a write to STATUS, OVR cleared by reset. -/
theorem witness_BusyWriteOnlySetsOverrun :
    (accessingBusy (.write 0x10 7)).turns = .write 0x10 7 :: [] ∧ (accessingBusy (.write 0x10 7)).busy = true ∧
    (∃ t, step { accessing (.write 1 0x100) with ovr := true } = .next t ∧ t.ovr = false) ∧
    ∃ t, step { accessing .reset with ovr := true } = .next t ∧ t.ovr = false :=
  ⟨rfl, rfl, ⟨_, rfl, rfl⟩, _, rfl, rfl⟩
theorem witness_StatusWriteClearsOverrunOnly :
    (accessing (.write 1 0x100)).turns = .write 1 0x100 :: [] ∧ (accessing (.write 1 0x100)).busy = false := ⟨rfl, rfl⟩
/-- The addresses at the edges of the map that select nothing. -/
theorem witness_unmapped :
    ¬ Mapped 8 ∧ ¬ Mapped 0xF ∧ ¬ Mapped 0x14 ∧ ¬ Mapped 0xFF ∧ ¬ Mapped 0x124 ∧ ¬ Mapped 0x13F ∧ ¬ Mapped 0x1E4 ∧
    ¬ Mapped 0xFFF ∧ ¬ Mapped 0x1040 ∧ ¬ Mapped 0xFFFFF ∧ ¬ Mapped 0x101000 ∧ ¬ Mapped 0xFFFFFFFF := by
  simp only [Mapped, not_or, not_and, not_exists]
  refine ⟨?_, ?_, ?_, ?_, ?_, ?_, ?_, ?_, ?_, ?_, ?_, ?_⟩ <;> refine ⟨by decide, by decide, ?_, by decide, by decide⟩ <;>
    intro v k hv hk h <;> simp at h <;> omega
/-- The addresses at the edges of the map that select something. -/
theorem witness_mapped :
    Mapped 7 ∧ Mapped 0x10 ∧ Mapped 0x13 ∧ Mapped 0x100 ∧ Mapped 0x123 ∧ Mapped 0x140 ∧ Mapped 0x1E3 ∧ Mapped 0x1000 ∧
    Mapped 0x103F ∧ Mapped 0x100000 ∧ Mapped 0x100FFF := by
  refine ⟨.inl ?_, .inr (.inl ?_), .inr (.inl ?_), .inr (.inr (.inl ⟨0, 0, ?_⟩)), .inr (.inr (.inl ⟨0, 35, ?_⟩)),
    .inr (.inr (.inl ⟨1, 0, ?_⟩)), .inr (.inr (.inl ⟨3, 35, ?_⟩)), .inr (.inr (.inr (.inl ?_))),
    .inr (.inr (.inr (.inl ?_))), .inr (.inr (.inr (.inr ?_))), .inr (.inr (.inr (.inr ?_)))⟩ <;> decide
/-- A write to an address of each clause, while BUSY = 0. -/
theorem witness_ReservedAndReadOnlyWritesAreIgnored (a : Word) :
    (accessing (.write a 7)).turns = .write a 7 :: [] ∧ (accessing (.write a 7)).busy = false := ⟨rfl, rfl⟩
/-- A read of any address while BUSY = 0, and the first and last address of each array of the map. -/
theorem witness_IdleReadsFollowTheAddressMap (a : Word) :
    (accessing (.read a)).turns = .read a :: [] ∧ (accessing (.read a)).busy = false ∧
    (0x13 : Word).toNat = 0x10 + (3 : XReg).val ∧ (0x1E3 : Word).toNat = 0x100 + 64 * (3 : VReg).val + (35 : Fin 36).val ∧
    (0x103F : Word).toNat = 0x1000 + (63 : Fin 64).val ∧ (0x100FFF : Word).toNat = 0x100000 + 4095 := by
  refine ⟨rfl, rfl, ?_⟩; decide
/-- R42: the STATUS value of READY with ERR = 6 and OVR = 1, 4 + 6 * 16 + 256. -/
theorem test_status_value :
    (after 1 { accessing (.read 1) with err := .illegalCommand, ovr := true }).map (·.replies) = some [356] := by
  decide +kernel
theorem witness_IdleStatusReadShowsItsFields :
    (accessing (.read 1)).turns = .read 1 :: [] ∧ (accessing (.read 1)).busy = false := ⟨rfl, rfl⟩
theorem witness_BusyReadsKeepBusyAndOverrun (a : Word) :
    (accessingBusy (.read a)).turns = .read a :: [] ∧ (accessingBusy (.read a)).busy = true := ⟨rfl, rfl⟩
/-- The edges of the writable addresses. -/
theorem witness_ReadAfterHostWrite (a b : Word) (n : Nat) :
    (∃ s : State, s.turns = .write a n :: .read b :: [] ∧ s.busy = false) ∧
    storedBits 2 = some 64 ∧ storedBits 6 = some 16 ∧ storedBits 0x10 = some 128 ∧ storedBits 0x13 = some 128 ∧
    storedBits 0x14 = none ∧ storedBits 0x100 = some 64 ∧ storedBits 0x123 = some 64 ∧ storedBits 0x124 = none ∧
    storedBits 0x1E3 = some 64 ∧ storedBits 0x1E4 = none ∧ storedBits 0x1000 = some 8 ∧ storedBits 0x103F = some 8 ∧
    storedBits 0x1040 = none ∧ storedBits 3 = none ∧ storedBits 0x100000 = none := by
  refine ⟨⟨{ ready with turns := [.write a n, .read b] }, rfl, rfl⟩, ?_⟩; decide
theorem witness_HostAccessesLeaveEngineState :
    (∃ t, step (accessing (.read 1)) = .next t) ∧ ∃ t, step (accessing (.write 0x1000 255)) = .next t :=
  ⟨⟨_, rfl⟩, _, rfl⟩
theorem witness_WaitEndsAfterCompletion (polls : Nat) :
    ∃ s : State, s.pend = some 0x220000C0 ∧ s.turns = Pseudo.wait polls ++ [] :=
  ⟨{ ready with pend := some 0x220000C0, turns := Pseudo.wait polls ++ [] }, rfl, rfl⟩
/-- Two states with different keys, one host access to come. -/
theorem witness_HostNeverReadsKeyOrNonce :
    AgreeOutsideKey (accessing (.read 0x100)) { accessing (.read 0x100) with key := constant 2, nl := 0 } ∧
    (accessing (.read 0x100)).key ≠ constant 2 ∧ ∃ t, step (accessing (.read 0x100)) = .next t := by
  refine ⟨rfl, by decide +kernel, _, rfl⟩
theorem witness_OnlyRcAndKsReadKeyOrNonce :
    ¬ NeedsKey (.ark 0 1 2 36) ∧ AgreeOutsideKey ready { ready with key := constant 2, nl := 0 } ∧
    ∃ t, exec (.ark 0 1 2 36) ready = .next t := ⟨id, rfl, exec_next _ _⟩
theorem witness_FailingCommandWritesOnlyErrAndBusy :
    EngineNext (pending 0x44000000) [] ∧ (pending 0x44000000).pend = some 0x44000000 ∧ (pending 0x44000000).seq = none ∧
    ∃ t, step (pending 0x44000000) = .next t ∧ t.err ≠ .ok := by
  refine ⟨.inl rfl, rfl, rfl, _, rfl, ?_⟩; decide +kernel
theorem witness_NotConstructedExactlyInNoparam :
    NeedsModulus (.sbox 1 0 3) ∧ State.reset.dev = .noparam ∧
    ∃ t, exec (.sbox 1 0 3) State.reset = .next t ∧ t.err = .notConstructed := ⟨trivial, rfl, _, rfl, rfl⟩
theorem witness_NotInitializedExactlyBeforeInit :
    NeedsKey (.ks 0) ∧ unconfigured.dev = .unconfigured ∧
    ∃ t, exec (.ks 0) unconfigured = .next t ∧ t.err = .notInitialized := ⟨trivial, rfl, _, rfl, rfl⟩
/-- The edges of CONFIG's four cases: 65537 is accepted, the others are not. -/
theorem witness_InvalidParameterExactlyFromConfig :
    (∃ t, exec (.config 0 12) ready = .next t) ∧ codeOf (.config 1 36) ready = some .ok ∧
    codeOf (.config 0 12) { ready with prime := 65536 } = some .invalidParameter ∧
    codeOf (.config 0 12) { ready with prime := 2 } = some .invalidParameter ∧
    codeOf (.config 2 12) ready = some .invalidParameter ∧ codeOf (.config 0 37) ready = some .invalidParameter := by
  refine ⟨exec_next _ _, ?_⟩; decide +kernel
/-- The edges of the four cases of InvalidInput. -/
theorem witness_InvalidInputExactly :
    (∃ t, exec (.sbox 1 0 4) ready = .next t) ∧ codeOf (.sbox 1 0 4) ready = some .invalidInput ∧
    codeOf (.sbox 1 0 3) (ready.setVec 0 (vecOf [0, 0, 65537])) = some .invalidInput ∧
    codeOf (.sbox 1 0 3) (ready.setVec 0 (vecOf [0, 0, 65536, 65537])) = some .ok ∧
    codeOf (.rc 1 0 1) (ready.setScalar 0 4294967296) = some .invalidInput ∧
    codeOf (.rc 1 0 1) (ready.setScalar 0 4294967295) = some .ok ∧
    codeOf (.ks 1) (ready.setScalar 1 171) = some .invalidInput ∧
    codeOf (.init 3 36) { ready with nonceLen := 65 } = some .invalidInput ∧
    codeOf (.init 3 36) { ready with nonceLen := 64 } = some .ok := by
  refine ⟨exec_next _ _, ?_⟩; decide +kernel
theorem witness_PrimitiveFailureExactlyWhenTheHashFails :
    (∃ t, settle (.error .primitiveFailure) ready = .next t) ∧ (∃ t, exec (.rc 1 0 1) ready = .next t) ∧
    rcBody { params with xof := fun _ _ => none } 1 0 1 ready = .error .primitiveFailure :=
  ⟨⟨_, rfl⟩, exec_next _ _, rfl⟩
/-- A step that changes the device state, in each of the three ways. -/
theorem witness_DeviceStateTransitions :
    (∃ t, step (accessing .reset) = .next t ∧ t.dev ≠ ready.dev) ∧
    (∃ t, step (pending 0x4000C000) = .next t ∧ t.dev ≠ (pending 0x4000C000).dev) ∧
    ∃ t, step (unconfigured.withFetchWord 32 0x41324000) = .next t ∧ t.dev ≠ unconfigured.dev := by
  refine ⟨⟨_, rfl, ?_⟩, ⟨_, rfl, ?_⟩, _, rfl, ?_⟩ <;> decide +kernel
theorem witness_EachRegisterHasItsOwnWriters (i : Instr) : ∃ t, exec i ready = .next t := exec_next _ _
/-- A command that changes an element of V, one that writes the last element of its triple, an INIT and a KS that
succeed. -/
theorem witness_WrittenElementsAreCanonical :
    Inv ready ∧ Inv (ready.setScalar 1 1) ∧
    (∃ t, exec (.rc 1 0 1) ready = .next t ∧ t.err = .ok ∧ WritesElement (.rc 1 0 1) 1 35 ∧
      (t.vec 1)[(0 : Fin 36)] ≠ (ready.vec 1)[(0 : Fin 36)]) ∧
    (codeOf (.sbox 1 0 3) ready = some .ok ∧ WritesElement (.sbox 1 0 3) 1 2 ∧ ¬ WritesElement (.sbox 1 0 3) 1 3) ∧
    codeOf (.init 3 36) ready = some .ok ∧
    ∃ t, exec (.ks 1) (ready.setScalar 1 1) = .next t ∧ t.err = .ok ∧ 0 < t.outLen.toNat := by
  refine ⟨witness_inv, witness_inv_setScalar _ _, ⟨_, rfl, rfl, rfl, ?_⟩,
    ⟨?_, ⟨rfl, by decide⟩, fun h => absurd h.2 (by decide)⟩, ?_, _, rfl, rfl, ?_⟩ <;> decide +kernel
/-- Outside NOPARAM, with a canonical triple and a non-canonical element after it. -/
theorem witness_SboxWritesTheImageOfItsTriple :
    (ready.setVec 0 (vecOf [65536, 65536, 0, 65537])).dev ≠ .noparam ∧
    ∀ k : Fin 36, k.val < 3 →
      ((ready.setVec 0 (vecOf [65536, 65536, 0, 65537])).vec 0)[k].toNat <
        (ready.setVec 0 (vecOf [65536, 65536, 0, 65537])).p.toNat := by
  decide +kernel
/-- Both corner cases: x0 = 0, and x0 = p - 1. -/
theorem witness_SboxCornerCases :
    ready.dev ≠ .noparam ∧ (∀ k : Fin 36, k.val < 3 → (ready.vec 0)[k].toNat < ready.p.toNat) ∧
    (ready.vec 0)[(0 : Fin 36)].toNat = 0 ∧
    (∀ k : Fin 36, k.val < 3 → ((ready.setVec 0 (vecOf [65536, 5, 7])).vec 0)[k].toNat < ready.p.toNat) ∧
    ((ready.setVec 0 (vecOf [65536, 5, 7])).vec 0)[(0 : Fin 36)].toNat = ready.p.toNat - 1 ∧
    (∃ t, exec (.sbox 1 0 3) ready = .next t) ∧
    ∃ t, exec (.sbox 1 0 3) (ready.setVec 0 (vecOf [65536, 5, 7])) = .next t := by
  refine ⟨by decide, by decide +kernel, by decide +kernel, by decide +kernel, by decide +kernel, exec_next _ _, exec_next _ _⟩
/-- A canonical source, and the elements of the last triple. -/
theorem witness_SboxlWritesTwelveImages :
    ready.dev ≠ .noparam ∧ (∀ k : Fin 36, (ready.vec 1)[k].toNat < ready.p.toNat) ∧
    (33 : Fin 36).val = 3 * (11 : Fin 12).val ∧ (34 : Fin 36).val = 3 * (11 : Fin 12).val + 1 ∧
    (35 : Fin 36).val = 3 * (11 : Fin 12).val + 2 := by
  decide +kernel
theorem witness_LinWritesMatrixProduct :
    ready.dev ≠ .noparam ∧ ∀ k : Fin 36, ((ready.setVec 1 (constant 65536)).vec 1)[k].toNat < ready.p.toNat := by
  decide +kernel
/-- READY with V1 at the largest canonical element, and V2 zero. -/
def sources : State := ready.setVec 1 (constant 65536)

/-- The conditions of RKEY, ARK and ROUND on the state and their sources V1 and V2. -/
def SourcesCanonical : Prop :=
  sources.dev ≠ .noparam ∧
    ∀ k : Fin 36, (sources.vec 1)[k].toNat < sources.p.toNat ∧ (sources.vec 2)[k].toNat < sources.p.toNat

theorem witness_RkeyWritesProducts : SourcesCanonical := by unfold SourcesCanonical; decide +kernel
theorem witness_ArkWritesSums : SourcesCanonical := witness_RkeyWritesProducts
theorem witness_RoundWritesTheRoundTransform : SourcesCanonical := witness_RkeyWritesProducts
/-- The longest nonce, and a canonical key. -/
theorem witness_InitLoadsKeyAndNonce :
    ({ ready with nonceLen := 64 } : State).dev ≠ .noparam ∧
    (∀ k : Fin 36, (({ ready with nonceLen := 64 } : State).vec 1)[k].toNat < ready.p.toNat) ∧
    ({ ready with nonceLen := 64 } : State).nonceLen.toNat ≤ 64 := by
  decide +kernel
theorem witness_IspermAndDiffuAnswers : unconfigured.dev ≠ .noparam := by decide
/-- A prime that is 2 mod 3, and a canonical triple of it. -/
theorem witness_SboxIsBijectiveForPrimeModulus :
    (65537 : Elem).toNat.Prime ∧ (65537 : Elem).toNat % 3 = 2 ∧ (65536 : Elem).toNat < (65537 : Elem).toNat := by
  refine ⟨?_, by decide, by decide⟩
  rw [show (65537 : Elem).toNat = 65537 from rfl]; norm_num
/-- A modulus with a prime factor that is 1 mod 3, and one without. -/
theorem witness_SboxIsBijectiveExactlyWithoutFactorOneModThree :
    ModulusOk 65555 ∧ 7 ∣ (65555 : Elem).toNat ∧ 7 % 3 = 1 ∧ ModulusOk 65537 := by decide
theorem witness_LinearLayerIsLinear : ModulusOk 65537 ∧ ModulusOk 65540 := by decide
theorem witness_RcWritesTheRoundConstant :
    Inv (ready.setScalar 0 4294967295) ∧ (ready.setScalar 0 4294967295).dev = .ready ∧
    ((ready.setScalar 0 4294967295).scalar 0).toNat < 2 ^ 32 ∧
    ((ready.setScalar 0 4294967295).scalar 1).toNat < 2 ^ 32 := by
  refine ⟨witness_inv_setScalar _ _, ?_⟩; decide +kernel
/-- Both clauses: a hash that fails, and one that does not. -/
theorem witness_RoundConstantOfAnyHash :
    ModulusOk 65537 ∧ params.indexOrder = .big ∧ params.chunkOrder = .big ∧
    ({ params with xof := fun _ _ => none } : Params).xof ([] ++ be32 0 ++ be32 0) 288 = none ∧
    ∃ h, params.xof ([] ++ be32 0 ++ be32 0) 288 = some h := ⟨by decide, rfl, rfl, rfl, _, rfl⟩
theorem witness_ConfigLoadsTheConfiguration :
    (ready.prime.toNat % 3 = 2 ∧ ready.prime.toNat > 2 ^ 16) ∧ 0 ≤ 1 ∧ 1 ≤ 1 ∧ 0 ≤ 36 ∧ 36 ≤ 36 := by decide
/-- Source V1, round key V2, scratch V1. -/
theorem witness_RoundIsSboxlThenLinThenArk : SourcesCanonical ∧ (1 : VReg) ≠ 2 :=
  ⟨witness_RkeyWritesProducts, by decide⟩
/-- A modulus above 0, a round key that there is, with its round constant, and a hash that gives none. -/
theorem witness_SequencerComputesTheBlockFunction :
    0 < ready.p.toNat ∧ 5 ≤ ready.rounds.toNat ∧ 4 < ready.rounds.toNat ∧ (∃ rk, roundKey params ready 5 0 = some rk) ∧
    (∃ rc, roundConstant params ready.nonceBytes 5 0 ready.p = some rc) ∧ (∃ w, blockState params ready 0 = some w) ∧
    roundConstant { params with xof := fun _ _ => none } ready.nonceBytes 5 0 ready.p = none :=
  ⟨by decide, by decide, by decide, ⟨_, rfl⟩, ⟨_, rfl⟩, ⟨_, rfl⟩, rfl⟩
/-- The largest block count that fits with m = 12, and the count of one element too many. -/
theorem witness_KsWritesTheKeystream :
    Inv (ready.setScalar 1 170) ∧ (ready.setScalar 1 170).dev = .ready ∧
    ((ready.setScalar 1 170).scalar 1).toNat < 2 ^ 32 ∧
    ((ready.setScalar 1 170).scalar 1).toNat * (36 - ready.trunc.toNat) ≤ 4096 ∧
    ¬ ((ready.setScalar 1 171).scalar 1).toNat * (36 - ready.trunc.toNat) ≤ 4096 := by
  refine ⟨witness_inv_setScalar _ _, ?_⟩; decide +kernel
/-- No block, and blocks truncated to nothing. -/
theorem witness_KsWithoutOutput :
    ready.dev = .ready ∧ (ready.scalar 1).toNat < 2 ^ 32 ∧ (ready.scalar 1).toNat = 0 ∧
    (({ ready with trunc := 36 } : State).setScalar 1 4294967295).dev = .ready ∧
    (({ ready with trunc := 36 } : State).setScalar 1 4294967295).trunc.toNat = 36 ∧
    ((({ ready with trunc := 36 } : State).setScalar 1 4294967295).scalar 1).toNat < 2 ^ 32 := by
  decide +kernel
/-- One block and two blocks of the same keystream, the first element of OUT in both. -/
theorem witness_KeystreamBlocksAreIndependent :
    Inv (ready.setScalar 1 2) ∧ Inv (ready.setScalar 1 1) ∧
    (ready.setScalar 1 1).p = (ready.setScalar 1 2).p ∧ (ready.setScalar 1 1).rounds = (ready.setScalar 1 2).rounds ∧
    (ready.setScalar 1 1).trunc = (ready.setScalar 1 2).trunc ∧ (ready.setScalar 1 1).key = (ready.setScalar 1 2).key ∧
    (ready.setScalar 1 1).nonceBytes = (ready.setScalar 1 2).nonceBytes ∧
    ((ready.setScalar 1 1).scalar 1).toNat ≤ ((ready.setScalar 1 2).scalar 1).toNat ∧
    (∃ t, exec (.ks 1) (ready.setScalar 1 2) = .next t ∧ t.err = .ok) ∧
    ∃ t, exec (.ks 1) (ready.setScalar 1 1) = .next t ∧ t.err = .ok ∧ 0 < t.outLen.toNat := by
  refine ⟨witness_inv_setScalar _ _, witness_inv_setScalar _ _, rfl, rfl, rfl, rfl, rfl, by decide +kernel,
    ⟨_, rfl, rfl⟩, _, rfl, rfl, ?_⟩
  decide +kernel

end Sys2Proof.Tests
end

section
/-! R18: what a command writes is canonical. First the values the units compute, then the registers a body leaves, then
the obligation. -/

namespace Sys2Proof.Machine

open Sys2Proof.Claims

/-! ## The computed vectors -/

section
variable {p : Elem}

theorem canonical_counterVector (hp : 0 < p.toNat) (j : Nat) : AllCanonical (counterVector p j) p := by
  intro k
  rw [counterVector, getElem_tabulate_fin]
  exact canonical_elemMod _ hp

/-- The first output of the S-box is its first input, and the other two are reduced (R141). -/
theorem canonical_pick_sboxMap (hp : 0 < p.toNat) {x0 : Elem} (h0 : Canonical x0 p) (x1 x2 : Elem) (k : Nat) :
    Canonical (pick (sboxMap p x0 x1 x2) k) p := by
  unfold pick
  split
  · exact h0
  · split <;> exact canonical_elemMod _ hp

theorem canonical_sboxLayer (hp : 0 < p.toNat) {a : Vec} (ha : AllCanonical a p) : AllCanonical (sboxLayer p a) p := by
  intro k
  rw [sboxLayer, getElem_tabulate_fin]
  exact canonical_pick_sboxMap hp (ha ⟨3 * (k.val / 3), by omega⟩) _ _ _

theorem canonical_roundTransform (hp : 0 < p.toNat) (c : Params) (a rk : Vec) :
    AllCanonical (roundTransform c p a rk) p :=
  canonical_addVec hp _ _

/-- A forced 1 is canonical as well: the modulus is above 1. -/
theorem canonical_forceNonzero (hp : 1 < p.toNat) {e : Elem} (he : Canonical e p) : Canonical (forceNonzero e) p := by
  unfold forceNonzero
  split
  · exact hp
  · exact he

theorem canonical_roundConstant (hp : 1 < p.toNat) {c : Params} {nonce : List Byte} {i j : Nat} {a : Vec}
    (h : roundConstant c nonce i j p = some a) : AllCanonical a p := by
  unfold roundConstant at h
  split at h
  · cases h
  · cases h
    intro k
    rw [getElem_tabulate_fin]
    exact canonical_forceNonzero hp (canonical_elemMod _ (by omega))

/-- SBOX replaces elements 0..2 (R142). -/
theorem getElem_setTriple (e : Vec) (y : Elem × Elem × Elem) (k : Fin 36) :
    (setTriple e y)[k] = if k.val < 3 then pick y k else e[k] := by
  match k with
  | 0 => simp [setTriple, pick]
  | 1 => simp [setTriple, pick]
  | 2 => simp [setTriple, pick]
  | ⟨k + 3, _⟩ => simp [setTriple]

end

/-! ## The keystream -/

section
variable {c : Params} {s : State}

/-- Every move of the sequencer leaves a reduced working state, or keeps it (R246). -/
theorem canonical_advance (hp : 0 < s.p.toNat) {q q' : Sequencer} (hq : AllCanonical q.work s.p)
    (h : q.advance c s = some q') : AllCanonical q'.work s.p := by
  unfold Sequencer.advance at h
  split at h
  case h_1 =>
    split at h
    · cases h
    · cases h; exact canonical_addVec hp _ _
  case h_2 =>
    split at h
    · cases h
    · cases h; exact canonical_roundTransform hp _ _ _
  case h_3 => cases h; exact canonical_linearLayer hp _ _
  case h_4 => cases h; exact hq

theorem canonical_run (hp : 0 < s.p.toNat) {n : Nat} {q q' : Sequencer} (hq : AllCanonical q.work s.p)
    (h : Sequencer.run c s n q = some q') : AllCanonical q'.work s.p := by
  induction n generalizing q with
  | zero => cases h; exact hq
  | succ n ih =>
    unfold Sequencer.run at h
    split at h
    · cases h
    · next hadv => exact ih (canonical_advance hp hq hadv) h

theorem canonical_runBlocks (hp : 0 < s.p.toNat) {n j : Nat} {qs : List Sequencer}
    (h : runBlocks c s n j = some qs) : ∀ q ∈ qs, AllCanonical q.work s.p := by
  induction n generalizing j qs with
  | zero => cases h; exact fun q hq => absurd hq List.not_mem_nil
  | succ n ih =>
    unfold runBlocks at h
    split at h
    · cases h
    · next hrun =>
      split at h
      · cases h
      · next hrest =>
        cases h
        exact List.forall_mem_cons.mpr ⟨canonical_run hp (canonical_counterVector hp _) hrun, ih hrest⟩

/-- Every element of the keystream is an element of a block's last state (R249). -/
theorem canonical_keystream {p : Elem} {qs : List Sequencer} (m : Nat) (h : ∀ q ∈ qs, AllCanonical q.work p) :
    ∀ e ∈ keystream m qs, Canonical e p := by
  intro e he
  obtain ⟨q, hq, he⟩ := List.mem_flatMap.mp he
  obtain ⟨k, hk, rfl⟩ := Vector.mem_iff_getElem.mp (Vector.mem_toList_iff.mp (List.mem_of_mem_drop he))
  exact h q hq ⟨k, hk⟩

end

/-! ## What a successful body leaves in V, KEY and OUT -/

/-- A place that is written holds a canonical element, and any other holds what it held. -/
def WrittenOrKept (written : Prop) (p old new : Elem) : Prop :=
  written ∧ Canonical new p ∨ ¬ written ∧ new = old

theorem WrittenOrKept.canonical {w : Prop} {p old new : Elem} (h : WrittenOrKept w p old new) (hw : w) :
    Canonical new p := by
  rcases h with ⟨_, hc⟩ | ⟨hn, _⟩
  · exact hc
  · exact absurd hw hn

theorem WrittenOrKept.canonical_of_ne {w : Prop} {p old new : Elem} (h : WrittenOrKept w p old new)
    (hne : new ≠ old) : Canonical new p := by
  rcases h with ⟨_, hc⟩ | ⟨_, he⟩
  · exact hc
  · exact absurd he hne

/-- From s to t the command i writes canonical elements only, and those of its destination only: the listed elements
of V, KEY by INIT, and the first OUT_LEN elements of OUT by KS. -/
structure WritesCanonical (i : Instr) (s t : State) : Prop where
  vec (r : VReg) (k : Fin 36) : WrittenOrKept (WritesElement i r k) s.p (s.vec r)[k] (t.vec r)[k]
  key (k : Fin 36) : WrittenOrKept (i.mnemonic = .INIT) s.p s.key[k] t.key[k]
  out (n : Nat) : WrittenOrKept (i.mnemonic = .KS ∧ n < t.outLen.toNat) s.p (s.out.read n) (t.out.read n)

section
variable {i : Instr} {s : State} (hinit : i.mnemonic ≠ .INIT := by nofun)
  (hks : i.mnemonic ≠ .KS := by nofun)
include hinit hks

/-- A command without an element in V, KEY or OUT as destination. -/
theorem writesCanonical_of_kept {t : State} (hw : ∀ r k, ¬ WritesElement i r k) (hv : t.v = s.v)
    (hkey : t.key = s.key) (hout : t.out = s.out) : WritesCanonical i s t where
  vec r k := .inr ⟨hw r k, by rw [State.vec, hv, ← State.vec]⟩
  key _ := .inr ⟨hinit, by rw [hkey]⟩
  out _ := .inr ⟨fun h => hks h.1, by rw [hout]⟩

/-- A command with a destination vector, given element by element. -/
theorem writesCanonical_setVec {vd : VReg} {e : Vec} (hw : ∀ r k, WritesElement i r k → r = vd)
    (he : ∀ k, WrittenOrKept (WritesElement i vd k) s.p (s.vec vd)[k] e[k]) :
    WritesCanonical i s (s.setVec vd e) where
  vec r k := by
    by_cases hr : r = vd
    · subst hr
      rw [State.vec_setVec_self]
      exact he k
    · exact .inr ⟨fun h => hr (hw r k h), by rw [State.vec_setVec_of_ne s vd e hr]⟩
  key _ := .inr ⟨hinit, rfl⟩
  out _ := .inr ⟨fun h => hks h.1, rfl⟩

/-- A command that writes a whole vector. -/
theorem writesCanonical_setVec_all {vd : VReg} {e : Vec} (hw : ∀ r k, WritesElement i r k ↔ r = vd)
    (he : AllCanonical e s.p) : WritesCanonical i s (s.setVec vd e) :=
  writesCanonical_setVec hinit hks (fun r k => (hw r k).mp) fun k => .inl ⟨(hw vd k).mpr rfl, he k⟩

end

section
variable {s : State}

theorem writesCanonical_sbox (hp : 0 < s.p.toNat) (vd vs1 : VReg) (len : Nat) {x0 : Elem} (h0 : Canonical x0 s.p)
    (x1 x2 : Elem) :
    WritesCanonical (.sbox vd vs1 len) s (s.setVec vd (setTriple (s.vec vd) (sboxMap s.p x0 x1 x2))) := by
  refine writesCanonical_setVec (hw := fun _ _ h => h.1) (he := fun k => ?_)
  rw [getElem_setTriple]
  split
  · next hk => exact .inl ⟨⟨rfl, hk⟩, canonical_pick_sboxMap hp h0 x1 x2 k⟩
  · next hk => exact .inr ⟨fun h => hk h.2, rfl⟩

theorem writesCanonical_init (vs1 : VReg) (len : Nat) {k : Vec} (hk : AllCanonical k s.p) (n : Nat) :
    WritesCanonical (.init vs1 len) s (s.loadKey k n) where
  vec _ _ := .inr ⟨id, rfl⟩
  key j := .inl ⟨rfl, hk j⟩
  out _ := .inr ⟨nofun, rfl⟩

theorem writesCanonical_ks (hout : s.out.wf) (xa : XReg) {buf : List Elem} (hlen : buf.length ≤ Config.OUT_DEPTH)
    (hbuf : ∀ e ∈ buf, Canonical e s.p) (q : Option Sequencer) :
    WritesCanonical (.ks xa) s (s.storeKeystream buf q) where
  vec _ _ := .inr ⟨id, rfl⟩
  key _ := .inr ⟨nofun, rfl⟩
  out n := by
    have houtLen : (BitVec.ofNat 32 buf.length).toNat = buf.length :=
      Nat.mod_eq_of_lt (hlen.trans_lt (by decide))
    rw [State.storeKeystream_outLen, houtLen, State.storeKeystream_out,
      Memory.read_writeList hout buf (by rwa [Nat.zero_add])]
    split
    · next h => exact .inl ⟨⟨rfl, by omega⟩, hbuf _ (List.getElem_mem _)⟩
    · next h => exact .inr ⟨fun hn => h ⟨Nat.zero_le n, by omega⟩, rfl⟩

end

/-- With a configuration loaded the modulus is above 1 (R232). -/
theorem Inv.one_lt_p {s : State} (hs : Inv s) (hd : s.dev ≠ .noparam) : 1 < s.p.toNat :=
  (by decide : 1 < 2 ^ 16).trans (hs.modulus hd).2

/-- R18, command by command. -/
theorem writesCanonical_of_bodyOf_ok {i : Instr} {s t : State} (hs : Inv s) (h : bodyOf i s = .ok t) :
    WritesCanonical i s t := by
  have hp (hd : s.dev ≠ .noparam) : 0 < s.p.toNat := Nat.zero_lt_of_lt (hs.one_lt_p hd)
  cases i with
  | sbox vd vs1 len =>
    obtain ⟨hd, -, ⟨h0, -, -⟩, rfl⟩ := sboxBody_eq_ok.mp h
    exact writesCanonical_sbox (hp hd) vd vs1 len h0 _ _
  | sboxl vd vs1 len =>
    obtain ⟨hd, -, hc, rfl⟩ := sboxlBody_eq_ok.mp h
    exact writesCanonical_setVec_all (hw := fun _ _ => .rfl) (he := canonical_sboxLayer (hp hd) hc)
  | isperm xd =>
    obtain ⟨-, rfl⟩ := ispermBody_eq_ok.mp h
    exact writesCanonical_of_kept (hw := fun _ _ => id) (hv := rfl) (hkey := rfl) (hout := rfl)
  | diffu xd =>
    obtain ⟨-, rfl⟩ := diffuBody_eq_ok.mp h
    exact writesCanonical_of_kept (hw := fun _ _ => id) (hv := rfl) (hkey := rfl) (hout := rfl)
  | lin vd vs1 len =>
    obtain ⟨hd, -, -, rfl⟩ := linBody_eq_ok.mp h
    exact writesCanonical_setVec_all (hw := fun _ _ => .rfl) (he := canonical_linearLayer (hp hd) _ _)
  | lbn xd =>
    obtain rfl := lbnBody_eq_ok.mp h
    exact writesCanonical_of_kept (hw := fun _ _ => id) (hv := rfl) (hkey := rfl) (hout := rfl)
  | dbn xd =>
    obtain rfl := dbnBody_eq_ok.mp h
    exact writesCanonical_of_kept (hw := fun _ _ => id) (hv := rfl) (hkey := rfl) (hout := rfl)
  | rc vd xa xb =>
    obtain ⟨hd, -, e, he, rfl⟩ := rcBody_eq_ok.mp h
    exact writesCanonical_setVec_all (hw := fun _ _ => .rfl)
      (he := canonical_roundConstant (hs.one_lt_p (by simp [hd])) he)
  | rkey vd vs1 vs2 len =>
    obtain ⟨hd, -, -, rfl⟩ := rkeyBody_eq_ok.mp h
    exact writesCanonical_setVec_all (hw := fun _ _ => .rfl) (he := canonical_mulVec (hp hd) _ _)
  | ark vd vs1 vs2 len =>
    obtain ⟨hd, -, -, rfl⟩ := arkBody_eq_ok.mp h
    exact writesCanonical_setVec_all (hw := fun _ _ => .rfl) (he := canonical_addVec (hp hd) _ _)
  | config lvl m6 =>
    obtain ⟨-, -, -, rfl⟩ := configBody_eq_ok.mp h
    exact writesCanonical_of_kept (hw := fun _ _ => id) (hv := rfl) (hkey := rfl) (hout := rfl)
  | init vs1 len =>
    obtain ⟨-, -, hc, -, rfl⟩ := initBody_eq_ok.mp h
    exact writesCanonical_init vs1 len hc _
  | round vd vs1 vs2 len =>
    obtain ⟨hd, -, -, rfl⟩ := roundBody_eq_ok.mp h
    exact writesCanonical_setVec_all (hw := fun _ _ => .rfl) (he := canonical_roundTransform (hp hd) _ _ _)
  | ks xa =>
    obtain ⟨hd, -, hfits, qs, hqs, rfl⟩ := ksBody_eq_ok.mp h
    refine writesCanonical_ks hs.out xa ?_
      (canonical_keystream _ (canonical_runBlocks (hp (by simp [hd])) hqs)) _
    rw [length_keystream, length_runBlocks hqs]
    exact Nat.not_lt.mp hfits

/-- Code 0 is no error: no body ends with it (R271). -/
theorem bodyOf_ne_error_ok (i : Instr) (s : State) : bodyOf i s ≠ .error .ok := by
  cases i <;>
    simp [bodyOf, sboxBody_eq_error, sboxlBody_eq_error, ispermBody_eq_error, diffuBody_eq_error, linBody_eq_error,
      lbnBody_ne_error, dbnBody_ne_error, rcBody_eq_error, rkeyBody_eq_error, arkBody_eq_error, configBody_eq_error,
      initBody_eq_error, roundBody_eq_error, ksBody_eq_error]

/-- What the completion of a command can be: a code other than 0 and nothing else, or a successful body and code 0
(R280, R311). -/
theorem exec_cases {i : Instr} {s t : State} (h : exec i s = .next t) :
    (∃ e, bodyOf i s = .error e ∧ e ≠ .ok ∧ t = s.raise e) ∨ ∃ u, bodyOf i s = .ok u ∧ t = u.succeed := by
  rw [exec_eq_settle] at h
  cases hb : bodyOf i s with
  | error e =>
    rw [hb, settle_error] at h
    cases h
    exact .inl ⟨e, rfl, fun he => bodyOf_ne_error_ok i s (he ▸ hb), rfl⟩
  | ok u =>
    rw [hb, settle_ok] at h
    cases h
    exact .inr ⟨u, rfl, rfl⟩

/-- Settles O35: a body that raises a code changes no element, and one that succeeds writes canonical elements only. -/
theorem writtenElementsAreCanonical : Obligations.WrittenElementsAreCanonical := by
  intro i s t hs h
  rcases exec_cases h with ⟨e, -, he, rfl⟩ | ⟨u, hu, rfl⟩
  · exact ⟨fun h0 => absurd h0 he, fun _ _ hne => absurd rfl hne, fun _ hne => absurd rfl hne,
      fun _ hne => absurd rfl hne⟩
  · obtain ⟨hvec, hkey, hout⟩ := writesCanonical_of_bodyOf_ok hs hu
    exact ⟨fun _ => ⟨fun r k => (hvec r k).canonical, fun hi k => (hkey k).canonical hi,
        fun hi n hn => (hout n).canonical ⟨hi, hn⟩⟩,
      fun r k => (hvec r k).canonical_of_ne, fun k => (hkey k).canonical_of_ne, fun n => (hout n).canonical_of_ne⟩

end Sys2Proof.Machine
end

section
/-! The registers of 10_state.md: what a host access and a command can do to them, said once for each, and from that the
invariant, the transitions of STATE and the writers of each register. -/

namespace Sys2Proof.Machine

open Sys2Proof.Claims

/-! ## The registers that only the engine and reset write -/

/-- The configuration, STATE, KEY, NONCE, NL, OUT_LEN and OUT are as they were. The defaults are those of an update of
other registers. -/
structure EngineKept (s t : State) : Prop where
  config : SameConfig s t := by exact ⟨rfl, rfl, rfl, rfl⟩
  key : SameKey s t := by exact ⟨rfl, rfl, rfl⟩
  outLen : t.outLen = s.outLen := by rfl
  out : t.out = s.out := by rfl

theorem EngineKept.dev {s t : State} (h : EngineKept s t) : t.dev = s.dev := by
  obtain ⟨-, -, -, hdev⟩ := h.config
  exact hdev

/-- The registers of the engine, and with them ERR and the sequencer state, are as they were. -/
structure HostKept (s t : State) : Prop extends EngineKept s t where
  err : t.err = s.err := by rfl
  seq : t.seq = s.seq := by rfl

section
variable {s t : State} {a : Word} {n : Nat} {ts : List Turn}

theorem hostKept_reply : HostKept s ((s.setTurns ts).reply n) := {}

theorem hostKept_reply_countDraw : HostKept s ((s.setTurns ts).reply n).countDraw := {}

theorem hostKept_hostRead : HostKept s (hostRead a (s.setTurns ts)) := by
  unfold hostRead
  split
  · exact hostKept_reply_countDraw
  · exact hostKept_reply

theorem hostKept_hostWrite : HostKept s (hostWrite a n (s.setTurns ts)) := by
  rcases hostWrite_cases a n (s.setTurns ts) with ⟨-, h⟩ | ⟨-, h | ⟨-, h⟩ | ⟨-, -, h⟩ | ⟨-, h⟩ | ⟨-, h⟩ | ⟨_, -, h⟩ |
    ⟨_, _, -, h⟩ | ⟨_, -, h⟩⟩ <;>
  · rw [h]
    exact {}

/-- A step that is a host access (R72). -/
theorem hostKept_step (hturn : s.turns = .read a :: ts ∨ s.turns = .write a n :: ts) (h : step s = .next t) :
    HostKept s t := by
  rcases hturn with hturn | hturn
  · rw [step_read hturn] at h
    cases h
    exact hostKept_hostRead
  · rw [step_write hturn] at h
    cases h
    exact hostKept_hostWrite

/-- Settles O23: a host access writes none of these registers, whatever its address. -/
theorem hostAccessesLeaveEngineState : Obligations.HostAccessesLeaveEngineState := by
  intro s t ts a n hturn h
  have hk := hostKept_step hturn h
  exact ⟨hk.config, hk.key, ⟨hk.outLen, fun k => by rw [hk.out]⟩, hk.err, hk.seq⟩

end

/-! ## What a successful command writes -/

/-- The writes of a successful body beside ERR, by the kind of its command, with what its checks have ensured of the
values written. -/
inductive Writes (s : State) : Instr → State → Prop
  | vector {i : Instr} (vd : VReg) (e : Vec) (hi : WritesVector i := by trivial) : Writes s i (s.setVec vd e)
  | scalar {i : Instr} (xd : XReg) (n : Nat) (hi : WritesScalar i := by trivial) : Writes s i (s.setScalar xd n)
  | config (lvl : Nat) {m6 : Nat} (hq : ModulusOk s.prime) (hm : m6 ≤ 36) :
    Writes s (.config lvl m6) (s.loadConfig s.prime (roundsOfLevel lvl) (BitVec.ofNat 6 m6))
  | init (vs1 : VReg) (len : Nat) (hdev : s.dev ≠ .noparam) (hk : AllCanonical (s.vec vs1) s.p) :
    Writes s (.init vs1 len) (s.loadKey (s.vec vs1) s.nonceLen.toNat)
  | ks (xa : XReg) {buf : List Elem} (hdev : s.dev = .ready) (hlen : buf.length ≤ Config.OUT_DEPTH)
    (q : Option Sequencer) : Writes s (.ks xa) (s.storeKeystream buf q)

/-- Every successful body is of one of these kinds. -/
theorem writes_of_bodyOf_ok {i : Instr} {s t : State} (h : bodyOf i s = .ok t) : Writes s i t := by
  cases i with
  | sbox vd vs1 len =>
    obtain ⟨-, -, -, rfl⟩ := sboxBody_eq_ok.mp h
    exact .vector _ _
  | sboxl vd vs1 len =>
    obtain ⟨-, -, -, rfl⟩ := sboxlBody_eq_ok.mp h
    exact .vector _ _
  | isperm xd =>
    obtain ⟨-, rfl⟩ := ispermBody_eq_ok.mp h
    exact .scalar _ _
  | diffu xd =>
    obtain ⟨-, rfl⟩ := diffuBody_eq_ok.mp h
    exact .scalar _ _
  | lin vd vs1 len =>
    obtain ⟨-, -, -, rfl⟩ := linBody_eq_ok.mp h
    exact .vector _ _
  | lbn xd =>
    obtain rfl := lbnBody_eq_ok.mp h
    exact .scalar _ _
  | dbn xd =>
    obtain rfl := dbnBody_eq_ok.mp h
    exact .scalar _ _
  | rc vd xa xb =>
    obtain ⟨-, -, _, -, rfl⟩ := rcBody_eq_ok.mp h
    exact .vector _ _
  | rkey vd vs1 vs2 len =>
    obtain ⟨-, -, -, rfl⟩ := rkeyBody_eq_ok.mp h
    exact .vector _ _
  | ark vd vs1 vs2 len =>
    obtain ⟨-, -, -, rfl⟩ := arkBody_eq_ok.mp h
    exact .vector _ _
  | config lvl m6 =>
    obtain ⟨hq, -, hm, rfl⟩ := configBody_eq_ok.mp h
    exact .config lvl hq (Nat.not_lt.mp hm)
  | init vs1 len =>
    obtain ⟨hdev, -, hk, -, rfl⟩ := initBody_eq_ok.mp h
    exact .init vs1 len hdev hk
  | round vd vs1 vs2 len =>
    obtain ⟨-, -, -, rfl⟩ := roundBody_eq_ok.mp h
    exact .vector _ _
  | ks xa =>
    obtain ⟨hdev, -, hfits, qs, hqs, rfl⟩ := ksBody_eq_ok.mp h
    refine .ks xa hdev ?_ _
    rw [length_keystream, length_runBlocks hqs]
    exact Nat.not_lt.mp hfits

/-! ## The invariant -/

section
variable {s t : State}

/-- The invariant speaks of registers of the engine only. -/
theorem Inv.of_engineKept (hs : Inv s) (h : EngineKept s t) (hseq : t.seq = none) : Inv t := by
  obtain ⟨⟨hp, hrounds, htrunc, hdev⟩, ⟨hkey, -, -⟩, houtLen, hout⟩ := h
  refine ⟨?modulus, ?rounds, ?trunc, ?unloaded, ?key, ?out, ?outLen, hseq⟩ <;>
    simp only [hp, hrounds, htrunc, hdev, hkey, houtLen, hout]
  exacts [hs.modulus, hs.rounds, hs.trunc, hs.unloaded, hs.key, hs.out, hs.outLen]

/-- The registers at the values that every reset gives them (R51), OUT with any contents. -/
theorem inv_of_reset_values (hdev : s.dev = .noparam)
    (hzero : s.p = 0 ∧ s.rounds = 0 ∧ s.trunc = 0 ∧ s.outLen = 0) (hout : s.out.wf) (hseq : s.seq = none) : Inv s where
  modulus h := absurd hdev h
  rounds h := absurd hdev h
  trunc := by
    obtain ⟨-, -, htrunc, -⟩ := hzero
    rw [htrunc]
    decide
  unloaded _ := hzero
  key h := by cases hdev.symm.trans h
  out := hout
  outLen := by
    obtain ⟨-, -, -, houtLen⟩ := hzero
    rw [houtLen]
    decide
  seq := hseq

/-- Settles O10: State.reset is one of the states a reset can leave, with an OUT that lists nothing. -/
theorem resetStateMeetsInvariant : Obligations.ResetStateMeetsInvariant :=
  inv_of_reset_values rfl ⟨rfl, rfl, rfl, rfl⟩ Memory.wf_nil rfl

theorem inv_takeReset (s : State) : Inv (takeReset s) :=
  inv_of_reset_values rfl ⟨rfl, rfl, rfl, rfl⟩ (Memory.wf_ofPairs _) rfl

theorem roundsOfLevel_eq (lvl : Nat) : roundsOfLevel lvl = 5 ∨ roundsOfLevel lvl = 6 := by
  unfold roundsOfLevel
  split
  · exact .inl rfl
  · exact .inr rfl

theorem Inv.loadConfig (hs : Inv s) (hq : ModulusOk s.prime) (lvl : Nat) {m6 : Nat} (hm : m6 ≤ 36) :
    Inv (s.loadConfig s.prime (roundsOfLevel lvl) (BitVec.ofNat 6 m6)).succeed.finish where
  modulus _ := hq
  rounds _ := roundsOfLevel_eq lvl
  trunc := (Nat.mod_le m6 _).trans hm
  unloaded := nofun
  key := nofun
  out := hs.out
  outLen := hs.outLen
  seq := rfl

theorem Inv.loadKey (hs : Inv s) (hdev : s.dev ≠ .noparam) {k : Vec} (hk : AllCanonical k s.p) (n : Nat) :
    Inv (s.loadKey k n).succeed.finish where
  modulus _ := hs.modulus hdev
  rounds _ := hs.rounds hdev
  trunc := hs.trunc
  unloaded := nofun
  key _ := hk
  out := hs.out
  outLen := hs.outLen
  seq := rfl

theorem Inv.storeKeystream (hs : Inv s) (hdev : s.dev = .ready) {buf : List Elem}
    (hlen : buf.length ≤ Config.OUT_DEPTH) (q : Option Sequencer) :
    Inv (s.storeKeystream buf q).succeed.finish where
  modulus := hs.modulus
  rounds := hs.rounds
  trunc := hs.trunc
  unloaded h := by cases hdev.symm.trans h
  key := hs.key
  out := Memory.wf_writeList hs.out 0 buf
  outLen := (Nat.mod_le _ _).trans hlen
  seq := rfl

/-- The end of a successful command (R280, R311). -/
theorem Inv.succeed_finish {i : Instr} (hs : Inv s) (h : Writes s i t) : Inv t.succeed.finish := by
  cases h with
  | vector => exact hs.of_engineKept {} rfl
  | scalar => exact hs.of_engineKept {} rfl
  | config lvl hq hm => exact hs.loadConfig hq lvl hm
  | init vs1 len hdev hk => exact hs.loadKey hdev hk _
  | ks xa hdev hlen q => exact hs.storeKeystream hdev hlen q

theorem Inv.engineTurn (hs : Inv s) (h : engineTurn s = .next t) : Inv t := by
  rcases engineTurn_cases s with ⟨-, he⟩ | ⟨_, _, -, -, he⟩ | ⟨_, _, _, -, -, -, he⟩ | ⟨_, _, u, -, -, hu, he⟩ <;>
    rw [he] at h <;> cases h
  · exact hs
  · exact hs.of_engineKept {} rfl
  · exact hs.of_engineKept {} rfl
  · exact hs.succeed_finish (writes_of_bodyOf_ok hu)

/-- Settles O11: the engine's turn keeps the invariant, a host access writes none of its registers, and reset
establishes it. -/
theorem stepKeepsInvariant : Obligations.StepKeepsInvariant := by
  intro s t hs h
  rcases step_cases s with ⟨ts, -, he⟩ | ⟨a, ts, hturn, -⟩ | ⟨a, n, ts, hturn, -⟩ | ⟨ts, -, he⟩
  · have hs' : Inv (s.setTurns ts) := hs.of_engineKept {} hs.seq
    exact hs'.engineTurn (he ▸ h)
  · have hk := hostKept_step (n := 0) (.inl hturn) h
    exact hs.of_engineKept hk.toEngineKept (hk.seq.trans hs.seq)
  · have hk := hostKept_step (.inr hturn) h
    exact hs.of_engineKept hk.toEngineKept (hk.seq.trans hs.seq)
  · cases he.symm.trans h
    exact inv_takeReset _

end

/-! ## The transitions of STATE (R31) -/

/-- Settles O33: of the kinds of write only those of CONFIG and INIT change STATE, and no host access does. -/
theorem deviceStateTransitions : Obligations.DeviceStateTransitions := by
  intro s t h hne
  rcases step_cases s with ⟨ts, hnext, he⟩ | ⟨a, ts, hturn, -⟩ | ⟨a, n, ts, hturn, -⟩ | ⟨ts, hturn, he⟩
  · rw [he] at h
    rcases engineTurn_cases (s.setTurns ts) with ⟨-, he⟩ | ⟨_, _, -, -, he⟩ | ⟨_, _, _, -, -, -, he⟩ |
      ⟨w, i, u, hpend, hdec, hu, he⟩ <;> rw [he] at h <;> cases h
    · exact absurd rfl hne
    · exact absurd rfl hne
    · exact absurd rfl hne
    · cases writes_of_bodyOf_ok hu with
      | vector => exact absurd rfl hne
      | scalar => exact absurd rfl hne
      | config lvl => exact .inr (.inl ⟨rfl, rfl, lvl, _, w, ts, hpend, hdec, hnext⟩)
      | init vs1 len hdev =>
        have huncfg : s.dev = .unconfigured := by
          cases hs : s.dev with
          | noparam => exact absurd hs hdev
          | unconfigured => rfl
          | ready => exact absurd hs.symm hne
        exact .inr (.inr ⟨rfl, rfl, huncfg, vs1, len, w, ts, hpend, hdec, hnext⟩)
      | ks => exact absurd rfl hne
  · exact absurd (hostKept_step (n := 0) (.inl hturn) h).dev hne
  · exact absurd (hostKept_step (.inr hturn) h).dev hne
  · cases he.symm.trans h
    exact .inl ⟨rfl, ts, hturn⟩

/-! ## The writers of each register -/

section
variable {i : Instr} {s t : State}

/-- What no command writes: the host's registers, PEND, OVR and the model's own fields (R36, R40, R41, R42, R50). -/
theorem exec_keeps_host_state (h : exec i s = .next t) :
    SameHostRegisters s t ∧ t.pend = s.pend ∧ t.ovr = s.ovr ∧ t.turns = s.turns ∧ t.replies = s.replies ∧
      t.draws = s.draws := by
  rcases exec_cases h with ⟨e, -, -, rfl⟩ | ⟨u, hu, rfl⟩
  · exact ⟨⟨rfl, rfl, rfl⟩, rfl, rfl, rfl, rfl, rfl⟩
  · cases writes_of_bodyOf_ok hu <;> exact ⟨⟨rfl, rfl, rfl⟩, rfl, rfl, rfl, rfl, rfl⟩

/-- Settles O34: for each kind of write, `.inr` marks the registers written. -/
theorem eachRegisterHasItsOwnWriters : Obligations.EachRegisterHasItsOwnWriters := by
  intro i s t h
  obtain ⟨hregs, hpend, hovr, hturns, hreplies, hdraws⟩ := exec_keeps_host_state h
  refine ⟨hregs, hpend, hovr, hturns, hreplies, hdraws, ?_⟩
  rcases exec_cases h with ⟨e, -, -, rfl⟩ | ⟨u, hu, rfl⟩
  · exact ⟨.inl ⟨rfl, rfl, rfl⟩, .inl ⟨rfl, rfl, rfl⟩, .inl rfl, .inl ⟨⟨rfl, fun _ => rfl⟩, rfl⟩, .inl fun _ => rfl,
      .inl fun _ => rfl⟩
  · cases writes_of_bodyOf_ok hu with
    | vector _ _ hi =>
      exact ⟨.inl ⟨rfl, rfl, rfl⟩, .inl ⟨rfl, rfl, rfl⟩, .inl rfl, .inl ⟨⟨rfl, fun _ => rfl⟩, rfl⟩, .inr hi,
        .inl fun _ => rfl⟩
    | scalar _ _ hi =>
      exact ⟨.inl ⟨rfl, rfl, rfl⟩, .inl ⟨rfl, rfl, rfl⟩, .inl rfl, .inl ⟨⟨rfl, fun _ => rfl⟩, rfl⟩, .inl fun _ => rfl,
        .inr hi⟩
    | config =>
      exact ⟨.inr rfl, .inl ⟨rfl, rfl, rfl⟩, .inr (.inl rfl), .inl ⟨⟨rfl, fun _ => rfl⟩, rfl⟩, .inl fun _ => rfl,
        .inl fun _ => rfl⟩
    | init =>
      exact ⟨.inl ⟨rfl, rfl, rfl⟩, .inr rfl, .inr (.inr rfl), .inl ⟨⟨rfl, fun _ => rfl⟩, rfl⟩, .inl fun _ => rfl,
        .inl fun _ => rfl⟩
    | ks =>
      exact ⟨.inl ⟨rfl, rfl, rfl⟩, .inl ⟨rfl, rfl, rfl⟩, .inl rfl, .inr rfl, .inl fun _ => rfl, .inl fun _ => rfl⟩

end

end Sys2Proof.Machine
end

section
/-! What a host access answers while BUSY = 0 (20_memory.md, R42), and that neither it nor the commands other than RC and
KS look at KEY, NONCE and NL. -/

namespace Sys2Proof.Machine

open Sys2Proof.Claims

/-! ## STATUS while BUSY = 0 -/

theorem stateCode_eq_code (d : DevState) : stateCode d = d.code := by cases d <;> rfl

theorem errorCode_eq_code (e : ErrCode) : errorCode e = e.code := by cases e <;> rfl

/-- The address of STATUS (R73), as a turn writes it. -/
theorem target_one : target 1 = .status := target_status

section
variable {s : State} {ts : List Turn}

/-- STATUS as the sum of its fields (R42). -/
theorem statusWord_of_idle (h : s.busy = false) :
    statusWord s = 2 * stateCode s.dev + 16 * errorCode s.err + (if s.ovr then 256 else 0) := by
  have hovr : s.ovr.toNat * 256 = if s.ovr then 256 else 0 := by cases s.ovr <;> rfl
  simp only [statusWord, statusOf, h, Bool.toNat_false, hovr, stateCode_eq_code, errorCode_eq_code]
  omega

/-- A read while BUSY = 0 answers what the map names and changes nothing of the CORE (R72, R82). -/
theorem step_read_of_idle {a : Word} (hturn : s.turns = .read a :: ts) (h : s.busy = false) :
    step s = .next { s with turns := ts, replies := idleRead s (target a) :: s.replies } := by
  rw [step_read hturn, hostRead_of_idle (by rwa [State.setTurns_busy])]
  cases target a <;> rfl

/-- Settles O20: each field of the sum fits its place. -/
theorem idleStatusReadShowsItsFields : Obligations.IdleStatusReadShowsItsFields := by
  intro s ts hturn h
  refine ⟨_, step_read_of_idle hturn h, ?_⟩
  have hdev : stateCode s.dev < 4 := by cases s.dev <;> decide
  have herr : errorCode s.err < 16 := by cases s.err <;> decide
  rw [target_one, idleRead, statusWord_of_idle h]
  split <;> omega

/-- Settles O17: STATUS stands at address 1, and its idle write looks at bit 8 only. -/
theorem statusWriteClearsOverrunOnly : Obligations.StatusWriteClearsOverrunOnly := by
  intro s ts n hturn h
  rw [step_write hturn, hostWrite_of_idle (by rwa [State.setTurns_busy]), target_one,
    idleWrite]
  cases n.testBit 8 with
  | false => rw [Bool.not_false, Bool.and_true]; rfl
  | true => rw [Bool.not_true, Bool.and_false]; rfl

end

/-! ## The map (R73, R74) -/

theorem idleRead_at (s : State) {a : Word} {n : Nat} {t : Target} (ht : targetOf n = t) (ha : a.toNat = n) :
    idleRead s (target a) = idleRead s t := by
  rw [target, ha, ht]

/-- What stands at an address of the map has its address in the ranges of R73. -/
theorem mapped_of_address {t : Target} {a : Word} (h : t.address = some a.toNat) : Mapped a := by
  cases t with
  | reserved => cases h
  | x r =>
    have := Option.some.inj h
    exact .inr (.inl (by omega))
  | v r k =>
    have := Option.some.inj h
    exact .inr (.inr (.inl ⟨r, k, by omega, by omega, by omega⟩))
  | nonceBuf b =>
    have := Option.some.inj h
    exact .inr (.inr (.inr (.inl (by omega))))
  | out n =>
    have := Option.some.inj h
    exact .inr (.inr (.inr (.inr (by omega))))
  | _ =>
    have := Option.some.inj h
    exact .inl (by omega)

theorem target_of_not_mapped {a : Word} (h : ¬ Mapped a) : target a = .reserved :=
  (address_targetOf a.toNat).resolve_left fun ha => h (mapped_of_address ha)

/-- Settles O19: the value read is that of the target of the address, and the map gives the target. -/
theorem idleReadsFollowTheAddressMap : Obligations.IdleReadsFollowTheAddressMap := by
  intro s ts a hturn h
  have hstatus (ha : a.toNat = 1) := (idleRead_at s (t := .status) rfl ha).trans (statusWord_of_idle h)
  have hreserved (ha : ¬ Mapped a) : idleRead s (target a) = 0 := by rw [target_of_not_mapped ha, idleRead]
  exact ⟨_, step_read_of_idle hturn h, idleRead_at s (t := .cmd) rfl, hstatus, idleRead_at s (t := .prime) rfl,
    idleRead_at s (t := .p) rfl, idleRead_at s (t := .rounds) rfl, idleRead_at s (t := .trunc) rfl,
    idleRead_at s (t := .nonceLen) rfl, idleRead_at s (t := .outLen) rfl, fun x => idleRead_at s (targetOf_x x),
    fun v k => idleRead_at s (targetOf_v v k), fun b => idleRead_at s (targetOf_nonceBuf b),
    fun k hk => idleRead_at s (targetOf_out ⟨k, hk⟩), hreserved⟩

/-! ## Nothing out of KEY, NONCE and NL (R46, R47) -/

/-- The state with KEY, NONCE and NL blanked: what is left for others to see. -/
def State.eraseKey (s : State) : State :=
  { s with key := Vector.replicate 36 0, nonce := Vector.replicate 64 0, nl := 0 }

theorem agreeOutsideKey_iff {s t : State} : AgreeOutsideKey s t ↔ s.eraseKey = t.eraseKey := by
  constructor
  · intro h
    rw [h]
    rfl
  · intro h
    cases s
    cases t
    simp only [State.eraseKey, State.mk.injEq] at h
    simp only [AgreeOutsideKey, h]

theorem idleRead_eraseKey (s : State) (t : Target) : idleRead s.eraseKey t = idleRead s t := by cases t <;> rfl

theorem eraseKey_hostRead (a : Word) (s : State) : (hostRead a s).eraseKey = hostRead a s.eraseKey := by
  cases h : s.busy with
  | false => rw [hostRead_of_idle h, hostRead_of_idle (s := s.eraseKey) h, idleRead_eraseKey]; rfl
  | true =>
    rw [hostRead_of_busy h, hostRead_of_busy (s := s.eraseKey) h]
    cases target a <;> rfl

theorem eraseKey_hostWrite (a : Word) (n : Nat) (s : State) : (hostWrite a n s).eraseKey = hostWrite a n s.eraseKey := by
  cases h : s.busy with
  | false =>
    rw [hostWrite_of_idle h, hostWrite_of_idle (s := s.eraseKey) h]
    cases target a with
    | status => simp only [idleWrite]; split <;> rfl
    | _ => rfl
  | true => rw [hostWrite_of_busy h, hostWrite_of_busy (s := s.eraseKey) h]; rfl

/-- Settles O25: blanking KEY, NONCE and NL before a host access or after it is the same. -/
theorem hostNeverReadsKeyOrNonce : Obligations.HostNeverReadsKeyOrNonce := by
  intro s s' t ts a n hagree hturn h
  have herase := agreeOutsideKey_iff.mp hagree
  have hturns : s'.turns = s.turns := (congrArg State.turns herase).symm
  have hset : (s.setTurns ts).eraseKey = (s'.setTurns ts).eraseKey := congrArg (State.setTurns · ts) herase
  rcases hturn with hturn | hturn
  · rw [step_read hturn] at h
    cases h
    refine ⟨_, step_read (hturns.trans hturn), agreeOutsideKey_iff.mpr ?_⟩
    rw [eraseKey_hostRead, hset, eraseKey_hostRead]
  · rw [step_write hturn] at h
    cases h
    refine ⟨_, step_write (hturns.trans hturn), agreeOutsideKey_iff.mpr ?_⟩
    rw [eraseKey_hostWrite, hset, eraseKey_hostWrite]

/-- What is done to the end of a body is done after its checks. -/
theorem map_check {P : Prop} [Decidable P] (f : State → State) (e : ErrCode) (k : Except ErrCode State) :
    (if P then .error e else k).map f = if P then .error e else k.map f := by
  split <;> rfl

theorem map_ok (f : State → State) (t : State) : (.ok t : Except ErrCode State).map f = .ok (f t) := rfl

/-- INIT leaves nothing of the old KEY, NONCE and NL, nor of the new ones, outside them (R240). -/
theorem eraseKey_loadKey (s : State) (k : Vec) (n : Nat) :
    (s.loadKey k n).eraseKey = { s.eraseKey with dev := .ready } := rfl

/-- What a command other than RC and KS leaves outside KEY, NONCE and NL, or the code it ends with, it owes to
what stands outside them. -/
theorem map_eraseKey_bodyOf {i : Instr} (hi : ¬ NeedsKey i) (s : State) :
    (bodyOf i s).map State.eraseKey = (bodyOf i s.eraseKey).map State.eraseKey := by
  cases i with
  | rc => exact absurd trivial hi
  | ks => exact absurd trivial hi
  | init =>
    simp only [bodyOf, initBody, map_check, map_ok, eraseKey_loadKey]
    rfl
  | _ =>
    simp only [bodyOf, sboxBody, sboxlBody, ispermBody, diffuBody, linBody, lbnBody, dbnBody, rkeyBody, arkBody,
      configBody, roundBody, map_check]
    rfl

theorem eraseKey_raise (e : ErrCode) (s : State) : (s.raise e).eraseKey = s.eraseKey.raise e := rfl

theorem eraseKey_succeed (s : State) : s.succeed.eraseKey = s.eraseKey.succeed := rfl

/-- The completion of a command carries over what its body leaves (R280, R311). -/
theorem settle_agreeOutsideKey {r r' : Except ErrCode State} {s s' t : State}
    (hr : r.map State.eraseKey = r'.map State.eraseKey) (hs : s.eraseKey = s'.eraseKey) (h : settle r s = .next t) :
    ∃ t', settle r' s' = .next t' ∧ AgreeOutsideKey t t' := by
  simp only [agreeOutsideKey_iff]
  cases r with
  | error e =>
    cases r' with
    | error e' =>
      cases hr
      cases h
      exact ⟨_, settle_error e s', by rw [eraseKey_raise, hs, eraseKey_raise]⟩
    | ok u' => cases hr
  | ok u =>
    cases r' with
    | error e' => cases hr
    | ok u' =>
      have hu : u.eraseKey = u'.eraseKey := Except.ok.inj hr
      cases h
      exact ⟨_, settle_ok u' s', by rw [eraseKey_succeed, hu, eraseKey_succeed]⟩

/-- Settles O26: blanking KEY, NONCE and NL before such a command does not show after it. -/
theorem onlyRcAndKsReadKeyOrNonce : Obligations.OnlyRcAndKsReadKeyOrNonce := by
  intro i s s' t hi hagree h
  have herase := agreeOutsideKey_iff.mp hagree
  have hbody := calc
    (bodyOf i s).map State.eraseKey = (bodyOf i s.eraseKey).map State.eraseKey := map_eraseKey_bodyOf hi s
    _ = (bodyOf i s'.eraseKey).map State.eraseKey := by rw [herase]
    _ = (bodyOf i s').map State.eraseKey := (map_eraseKey_bodyOf hi s').symm
  rw [exec_eq_settle] at h ⊢
  exact settle_agreeOutsideKey hbody herase h

end Sys2Proof.Machine
end

section
/-! What a host write does while BUSY = 0 (20_memory.md, R40): the bits it stores where it goes, what it leaves elsewhere,
and the addresses at which it does nothing. -/

namespace Sys2Proof.Machine

open Sys2Proof.Claims

/-! ## The bits stored at a target -/

/-- The number of low bits that a host write stores in what it selects, or `none` where it stores none (R40, R73 to R75).
CMD and STATUS hold no value written: their writes are commands to the CORE (R35, R42). -/
def Target.storedBits : Target → Option Nat
  | .prime => some 64
  | .nonceLen => some 16
  | .x _ => some 128
  | .v _ _ => some 64
  | .nonceBuf _ => some 8
  | _ => none

/-- The ranges of the address map say the same as the target (R73). -/
theorem storedBits_target (a : Word) : (target a).storedBits = storedBits a := by
  unfold target Claims.storedBits
  by_cases h : 8 ≤ a.toNat
  · rw [targetOf_of_le h, arrayTarget, if_neg (by omega), if_neg (by omega)]
    split
    · rw [if_pos (by omega)]; rfl
    · rw [if_neg (by omega)]
      split
      · rw [if_pos (by omega)]; rfl
      · rw [if_neg (by omega)]
        split
        · rw [if_pos (by omega)]; rfl
        · rw [if_neg (by omega)]
          split <;> rfl
  · obtain h | h | h | h | h | h | h | h : a.toNat = 0 ∨ a.toNat = 1 ∨ a.toNat = 2 ∨ a.toNat = 3 ∨ a.toNat = 4 ∨
        a.toNat = 5 ∨ a.toNat = 6 ∨ a.toNat = 7 := by omega
    all_goals rw [h]; rfl

/-- What is selected stands at its own address only (R73). -/
theorem toNat_of_target {a : Word} {t : Target} {k : Nat} (h : target a = t) (ht : t.address = some k) :
    a.toNat = k := by
  subst h
  rcases address_targetOf a.toNat with ha | ha
  · exact Option.some.inj (ha.symm.trans ht)
  · rw [target, ha] at ht
    cases ht

/-! ## A write while BUSY = 0 -/

section
variable {s : State} {t u : Target} {n w : Nat}

/-- A write of STATUS acts on OVR only (R42). -/
theorem idleWrite_status : idleWrite .status n s = { s with ovr := s.ovr && !n.testBit 8 } := by
  rw [idleWrite]
  cases n.testBit 8 with
  | false => rw [Bool.not_false, Bool.and_true]; rfl
  | true => rw [Bool.not_true, Bool.and_false]; rfl

@[simp] theorem idleWrite_turns : (idleWrite t n s).turns = s.turns := by
  cases t with
  | status => rw [idleWrite_status]
  | _ => rfl

@[simp] theorem idleWrite_replies : (idleWrite t n s).replies = s.replies := by
  cases t with
  | status => rw [idleWrite_status]
  | _ => rfl

/-- Only a write of CMD makes the CORE busy (R310). -/
theorem idleWrite_busy (hcmd : t ≠ .cmd) : (idleWrite t n s).busy = s.busy := by
  cases t with
  | cmd => exact absurd rfl hcmd
  | status => rw [idleWrite_status]; rfl
  | _ => rfl

/-- R74, R75: where nothing is stored and nothing else is done, the write is ignored. -/
theorem idleWrite_of_storedBits_eq_none (h : t.storedBits = none) (hcmd : t ≠ .cmd) (hstatus : t ≠ .status) :
    idleWrite t n s = s := by
  cases t with
  | cmd => exact absurd rfl hcmd
  | status => exact absurd rfl hstatus
  | prime | nonceLen | x | v | nonceBuf => cases h
  | _ => rfl

/-- R72: what was written is read back, cut to the bits stored. -/
theorem idleRead_idleWrite_self (h : t.storedBits = some w) : idleRead (idleWrite t n s) t = n % 2 ^ w := by
  cases t with
  | x r =>
    cases h
    rw [idleRead, idleWrite, State.scalar_setScalar_self, BitVec.toNat_ofNat]
  | v r k =>
    cases h
    rw [idleRead, idleWrite, State.vec_setElem_self, Fin.getElem_fin, Vector.getElem_set_self, BitVec.toNat_ofNat]
  | nonceBuf b =>
    cases h
    rw [idleRead, idleWrite, State.setNonceByte_nonceBuf, Fin.getElem_fin, Vector.getElem_set_self, BitVec.toNat_ofNat]
  | prime | nonceLen =>
    cases h
    exact BitVec.toNat_ofNat ..
  | _ => cases h

/-- An element of a vector array other than the one written. -/
theorem State.vec_setElem_getElem_of_ne (s : State) {r r' : VReg} {k k' : Fin 36} (e : Elem)
    (h : Target.v r' k' ≠ .v r k) : ((s.setElem r k e).vec r')[k'] = (s.vec r')[k'] := by
  by_cases hr : r' = r
  · subst hr
    have hk : k.val ≠ k'.val := fun hk => h (by rw [Fin.ext hk])
    rw [State.vec_setElem_self, Fin.getElem_fin, Vector.getElem_set_ne _ _ hk]
    rfl
  · rw [State.vec_setElem_of_ne _ _ _ _ hr]

/-- R72: a write stores nothing elsewhere. -/
theorem idleRead_idleWrite_of_ne (h : t.storedBits = some w) (hne : u ≠ t) :
    idleRead (idleWrite t n s) u = idleRead s u := by
  cases t with
  | prime =>
    cases u with
    | prime => exact absurd rfl hne
    | _ => rfl
  | nonceLen =>
    cases u with
    | nonceLen => exact absurd rfl hne
    | _ => rfl
  | x r =>
    cases u with
    | x r' => rw [idleRead, idleWrite, State.scalar_setScalar_of_ne _ _ _ fun hr => hne (by rw [hr]), idleRead]
    | _ => rfl
  | v r k =>
    cases u with
    | v r' k' => rw [idleRead, idleWrite, State.vec_setElem_getElem_of_ne _ _ hne, idleRead]
    | _ => rfl
  | nonceBuf b =>
    cases u with
    | nonceBuf b' =>
      have hb : b.val ≠ b'.val := fun hb => hne (by rw [Fin.ext hb])
      rw [idleRead, idleWrite, State.setNonceByte_nonceBuf, Fin.getElem_fin, Vector.getElem_set_ne _ _ hb, idleRead]
      rfl
    | _ => rfl
  | _ => cases h

end

@[simp] theorem idleRead_setTurns (s : State) (ts : List Turn) (t : Target) : idleRead (s.setTurns ts) t = idleRead s t := by
  cases t <;> rfl

/-! ## Runs of steps -/

section
variable {k : Nat} {s t u : State}

theorem runs_zero (s : State) : Runs 0 s s := rfl

theorem runs_succ (h : step s = .next u) (hr : Runs k u t) : Runs (k + 1) s t := by
  simpa only [Runs, Host.Core.run, core, h] using hr

end

/-! ## The step of a write while BUSY = 0 -/

section
variable {s : State} {ts : List Turn} {a : Word} {n : Nat}

theorem step_write_of_idle (hturn : s.turns = .write a n :: ts) (h : s.busy = false) :
    step s = .next (idleWrite (target a) n (s.setTurns ts)) := by
  rw [step_write hturn, hostWrite_of_idle (by rwa [State.setTurns_busy])]

/-- Settles O18: at each of these addresses stands a target of which the idle write keeps the state. -/
theorem reservedAndReadOnlyWritesAreIgnored : Obligations.ReservedAndReadOnlyWritesAreIgnored := by
  intro s ts a n hturn h ha
  rw [step_write_of_idle hturn h]
  rcases ha with ha | ha | ha | ha | ⟨hlo, hhi⟩ | ha
  · rw [target, ha]; rfl
  · rw [target, ha]; rfl
  · rw [target, ha]; rfl
  · rw [target, ha]; rfl
  · obtain ⟨k, hk⟩ := Nat.exists_eq_add_of_le hlo
    rw [target, hk, targetOf_out ⟨k, by omega⟩]; rfl
  · rw [target_of_not_mapped ha]; rfl

/-- A write to an address other than CMD, and a read after it: what the second turn returns. -/
theorem runs_write_read {b : Word} (hturn : s.turns = .write a n :: .read b :: ts) (h : s.busy = false)
    (hcmd : target a ≠ .cmd) :
    ∃ t, Runs 2 s t ∧ t.turns = ts ∧
      t.replies = idleRead (idleWrite (target a) n (s.setTurns (.read b :: ts))) (target b) :: s.replies := by
  have hread := step_read_of_idle (s := idleWrite (target a) n (s.setTurns (.read b :: ts)))
    idleWrite_turns ((idleWrite_busy hcmd).trans h)
  refine ⟨_, runs_succ (step_write_of_idle hturn h) (runs_succ hread (runs_zero _)), rfl, ?_⟩
  exact congrArg _ idleWrite_replies

/-- Settles O22: the address read has the target of the address written exactly when it is that address. -/
theorem readAfterHostWrite : Obligations.ReadAfterHostWrite := by
  intro s ts a b n hturn h h0 h1
  have hcmd : target a ≠ .cmd := fun ht => h0 (toNat_of_target ht rfl)
  have hstatus : target a ≠ .status := fun ht => h1 (toNat_of_target ht rfl)
  obtain ⟨t, hrun, hturns, hreplies⟩ := runs_write_read hturn h hcmd
  refine ⟨t, hrun, hturns, ?_⟩
  rw [hreplies, ← storedBits_target]
  cases hw : (target a).storedBits with
  | none => rw [idleWrite_of_storedBits_eq_none hw hcmd hstatus, idleRead_setTurns]
  | some w =>
    dsimp only
    split
    · next hba => rw [hba, idleRead_idleWrite_self hw]
    · next hba =>
      have hmapped : target a ≠ .reserved := fun ht => by rw [ht] at hw; cases hw
      have hne : target b ≠ target a := fun ht => hba (target_inj ht.symm hmapped).symm
      rw [idleRead_idleWrite_of_ne hw hne, idleRead_setTurns]

end

end Sys2Proof.Machine
end

section
/-! The command word (30_encoding.md): decode and encode are inverse to each other (R101, R112 to R114), and what decode
selects and refuses is what the opcode table says (R102, R109 to R111). -/

namespace Sys2Proof

open Sys2Proof.Claims

/-! ## The fields of a word (R101) -/

section
variable {w n : Word} {lo width : Nat}

theorem field_lt (w : Word) (lo width : Nat) : field w lo width < 2 ^ width := Nat.mod_lt _ (Nat.two_pow_pos width)

theorem selector_val (w : Word) (lo : Nat) : (selector w lo).val = field w lo 2 := rfl

/-- A field stands above what lies below it. -/
theorem toNat_mod_add (w : Word) (lo width : Nat) :
    w.toNat % 2 ^ (lo + width) = field w lo width * 2 ^ lo + w.toNat % 2 ^ lo := by
  rw [Nat.pow_add, Nat.mod_mul, field]
  ring

theorem field_and (w n : Word) (lo width : Nat) : field (w &&& n) lo width = field w lo width &&& field n lo width := by
  rw [field, BitVec.toNat_and, Nat.and_div_two_pow, Nat.and_mod_two_pow, field, field]

theorem field_and_of_ones (h : field n lo width = 2 ^ width - 1) : field (w &&& n) lo width = field w lo width := by
  rw [field_and, h, Nat.and_two_pow_sub_one_of_lt_two_pow (field_lt w lo width)]

theorem field_and_of_zero (h : field n lo width = 0) : field (w &&& n) lo width = 0 := by
  rw [field_and, h, Nat.and_zero]

theorem opcField_eq_div (w : Word) : opcField w = w.toNat / 2 ^ 24 := Nat.mod_eq_of_lt (by omega)

end

/-! ## The rows of the opcode table (R109) -/

section
variable {c : Mnemonic} {w : Word} {i : Instr}

theorem Mnemonic.opc_lt (c : Mnemonic) : c.opc < 256 := by cases c <;> decide

theorem Mnemonic.mem_all (c : Mnemonic) : c ∈ Mnemonic.all := by cases c <;> decide

theorem Mnemonic.toNat_matchWord (c : Mnemonic) : c.matchWord.toNat = c.opc * 2 ^ 24 := by cases c <;> rfl

theorem Mnemonic.opcField_matchWord (c : Mnemonic) : opcField c.matchWord = c.opc := by cases c <;> rfl

theorem Mnemonic.matchWord_and_mask (c : Mnemonic) : c.matchWord &&& c.format.mask = c.matchWord := by
  cases c <;> decide

theorem Mnemonic.selects_iff : c.selects w = true ↔ w &&& c.format.mask = c.matchWord := beq_iff_eq

/-- Every format matches the whole opcode (R102). -/
theorem Mnemonic.opcField_of_selects (h : c.selects w = true) : opcField w = c.opc := by
  have hmask : field c.format.mask 24 8 = 2 ^ 8 - 1 := by cases c <;> rfl
  rw [← c.opcField_matchWord, ← Mnemonic.selects_iff.mp h]
  exact (field_and_of_ones hmask).symm

/-- No two rows share an opcode. -/
theorem mnemonicOf_opc (c : Mnemonic) : mnemonicOf c.opc = some c := by cases c <;> rfl

theorem mnemonicOf_eq_some {n : Nat} : mnemonicOf n = some c ↔ c.opc = n :=
  ⟨fun h => beq_iff_eq.mp (List.find?_some (p := fun d : Mnemonic => d.opc == n) h), fun h => h ▸ mnemonicOf_opc c⟩

theorem mnemonicOf_eq_none {n : Nat} : mnemonicOf n = none ↔ ∀ c : Mnemonic, c.opc ≠ n := by
  rw [Option.eq_none_iff_forall_ne_some]
  exact forall_congr' fun _ => not_congr mnemonicOf_eq_some

theorem Mnemonic.mnemonic_build (c : Mnemonic) (w : Word) : (c.build w).mnemonic = c := by cases c <;> rfl

/-! ## What decode answers (R113) -/

theorem decode_of_opc (h : opcField w = c.opc) :
    decode w = if c.selects w then .ok (c.build w) else .error .mustBeZero := by
  rw [decode, h, mnemonicOf_opc]

theorem decode_of_selects (h : c.selects w = true) : decode w = .ok (c.build w) := by
  rw [decode_of_opc (Mnemonic.opcField_of_selects h), if_pos h]

/-- The three answers of decode. -/
theorem decode_cases (w : Word) :
    ((∀ c : Mnemonic, c.opc ≠ opcField w) ∧ decode w = .error .reservedOpcode) ∨
    (∃ c : Mnemonic, c.opc = opcField w ∧ ¬ c.selects w = true ∧ decode w = .error .mustBeZero) ∨
    ∃ c : Mnemonic, c.selects w = true ∧ decode w = .ok (c.build w) := by
  cases hm : mnemonicOf (opcField w) with
  | none => exact .inl ⟨mnemonicOf_eq_none.mp hm, by rw [decode, hm]⟩
  | some c =>
    have hopc := mnemonicOf_eq_some.mp hm
    by_cases hs : c.selects w = true
    · exact .inr (.inr ⟨c, hs, decode_of_selects hs⟩)
    · exact .inr (.inl ⟨c, hopc, hs, by rw [decode_of_opc hopc.symm, if_neg hs]⟩)

theorem decode_eq_ok : decode w = .ok i ↔ ∃ c : Mnemonic, c.selects w = true ∧ c.build w = i := by
  constructor
  · intro h
    rcases decode_cases w with ⟨-, he⟩ | ⟨c, -, -, he⟩ | ⟨c, hs, he⟩ <;> cases he.symm.trans h
    exact ⟨c, hs, rfl⟩
  · rintro ⟨c, hs, rfl⟩
    exact decode_of_selects hs

theorem decode_eq_reservedOpcode : decode w = .error .reservedOpcode ↔ ∀ c : Mnemonic, c.opc ≠ opcField w := by
  constructor
  · intro h
    rcases decode_cases w with ⟨hno, -⟩ | ⟨c, -, -, he⟩ | ⟨c, -, he⟩
    · exact hno
    · cases he.symm.trans h
    · cases he.symm.trans h
  · intro h
    rw [decode, mnemonicOf_eq_none.mpr h]

theorem decode_eq_mustBeZero :
    decode w = .error .mustBeZero ↔ ∃ c : Mnemonic, c.opc = opcField w ∧ ¬ c.selects w = true := by
  constructor
  · intro h
    rcases decode_cases w with ⟨-, he⟩ | ⟨c, hopc, hs, -⟩ | ⟨c, -, he⟩
    · cases he.symm.trans h
    · exact ⟨c, hopc, hs⟩
    · cases he.symm.trans h
  · rintro ⟨c, hopc, hs⟩
    rw [decode_of_opc hopc.symm, if_neg hs]

end

/-! ## From the fields to the word, and back (R101, R114) -/

/-- The operands fit their fields (R101). -/
abbrev OperandsFit (vd vs1 vs2 len xa xb xd : Nat) : Prop :=
  vd < 4 ∧ vs1 < 4 ∧ vs2 < 4 ∧ len < 64 ∧ xa < 4 ∧ xb < 4 ∧ xd < 4

section
variable {c : Mnemonic} {vd vs1 vs2 len xa xb xd : Nat}

theorem toNat_assemble (h : OperandsFit vd vs1 vs2 len xa xb xd) :
    (assemble c vd vs1 vs2 len xa xb xd).toNat =
      c.opc * 2 ^ 24 + vd * 2 ^ 22 + vs1 * 2 ^ 20 + vs2 * 2 ^ 18 + len * 2 ^ 12 + xa * 2 ^ 10 + xb * 2 ^ 8 +
        xd * 2 ^ 6 := by
  have hopc := c.opc_lt
  rw [assemble, BitVec.toNat_ofNat, Nat.mod_eq_of_lt (by omega)]

end

theorem operandsFit_fields (u : Word) :
    OperandsFit (vdField u) (vs1Field u) (vs2Field u) (lenField u) (xaField u) (xbField u) (xdField u) :=
  ⟨Fin.is_lt _, Fin.is_lt _, Fin.is_lt _, field_lt u 12 6, Fin.is_lt _, Fin.is_lt _, Fin.is_lt _⟩

/-- R101: a word is the sum of its fields, each at its place, and of its bits [5:0]. -/
theorem toNat_eq_sum_fields (w : Word) :
    w.toNat = opcField w * 2 ^ 24 + (vdField w * 2 ^ 22 + (vs1Field w * 2 ^ 20 + (vs2Field w * 2 ^ 18 +
      (lenField w * 2 ^ 12 + (xaField w * 2 ^ 10 + (xbField w * 2 ^ 8 + (xdField w * 2 ^ 6 + w.toNat % 2 ^ 6))))))) :=
  calc w.toNat
    _ = w.toNat % 2 ^ (24 + 8) := (Nat.mod_eq_of_lt w.isLt).symm
    _ = _ := by
      rw [toNat_mod_add w 24 8, toNat_mod_add w 22 2, toNat_mod_add w 20 2, toNat_mod_add w 18 2, toNat_mod_add w 12 6,
        toNat_mod_add w 10 2, toNat_mod_add w 8 2, toNat_mod_add w 6 2]
      rfl

/-- A word of opcode 0 whose bits [5:0] are 0, with an opcode put over it, is assembled from its own fields. -/
theorem assemble_fields (c : Mnemonic) {u : Word} (hopc : opcField u = 0) (hlow : field u 0 6 = 0) :
    assemble c (vdField u) (vs1Field u) (vs2Field u) (lenField u) (xaField u) (xbField u) (xdField u) =
      c.matchWord ||| u := by
  have hsum := toNat_eq_sum_fields u
  have hu : u.toNat < 2 ^ 24 := by rw [opcField_eq_div] at hopc; omega
  rw [field, Nat.pow_zero, Nat.div_one] at hlow
  rw [hopc, hlow] at hsum
  apply BitVec.eq_of_toNat_eq
  rw [BitVec.toNat_or, c.toNat_matchWord, Nat.mul_comm, ← Nat.two_pow_add_eq_or_of_lt hu,
    toNat_assemble (operandsFit_fields u)]
  omega

/-- The bits of a word that its format leaves to operands: those outside the mask (R102). -/
def Format.operandBits (f : Format) (w : Word) : Word := w &&& ~~~f.mask

theorem Format.operandBits_and_mask (f : Format) (w : Word) : f.operandBits w &&& f.mask = 0#32 := by
  rw [operandBits, BitVec.and_assoc, BitVec.not_and_self]
  exact BitVec.and_zero

/-- R102: the command built from a word is encoded by the row's match and the word's own operand bits. -/
theorem encode_build (c : Mnemonic) (w : Word) : encode (c.build w) = c.matchWord ||| c.format.operandBits w := by
  have hopc : field (~~~c.format.mask) 24 8 = 0 := by cases c <;> rfl
  have hlow : field (~~~c.format.mask) 0 6 = 0 := by cases c <;> rfl
  rw [Format.operandBits, ← assemble_fields c (field_and_of_zero hopc) (field_and_of_zero hlow)]
  -- a field is an operand of the command where the mask has only 0s in it, and encode puts 0 where it has only 1s
  cases c <;>
    simp (disch := decide) only [Mnemonic.build, encode, Mnemonic.format, vdField, vs1Field, vs2Field, lenField,
      xaField, xbField, xdField, lvlField, m6Field, selector_val, field_and_of_ones, field_and_of_zero]

section
variable {c : Mnemonic} {vd vs1 vs2 len xa xb xd : Nat}

@[simp] theorem vdField_assemble (h : OperandsFit vd vs1 vs2 len xa xb xd) :
    (vdField (assemble c vd vs1 vs2 len xa xb xd)).val = vd := by
  rw [vdField, selector_val, field, toNat_assemble h]
  omega

@[simp] theorem vs1Field_assemble (h : OperandsFit vd vs1 vs2 len xa xb xd) :
    (vs1Field (assemble c vd vs1 vs2 len xa xb xd)).val = vs1 := by
  rw [vs1Field, selector_val, field, toNat_assemble h]
  omega

@[simp] theorem vs2Field_assemble (h : OperandsFit vd vs1 vs2 len xa xb xd) :
    (vs2Field (assemble c vd vs1 vs2 len xa xb xd)).val = vs2 := by
  rw [vs2Field, selector_val, field, toNat_assemble h]
  omega

@[simp] theorem lenField_assemble (h : OperandsFit vd vs1 vs2 len xa xb xd) :
    lenField (assemble c vd vs1 vs2 len xa xb xd) = len := by
  rw [lenField, field, toNat_assemble h]
  omega

@[simp] theorem xaField_assemble (h : OperandsFit vd vs1 vs2 len xa xb xd) :
    (xaField (assemble c vd vs1 vs2 len xa xb xd)).val = xa := by
  rw [xaField, selector_val, field, toNat_assemble h]
  omega

@[simp] theorem xbField_assemble (h : OperandsFit vd vs1 vs2 len xa xb xd) :
    (xbField (assemble c vd vs1 vs2 len xa xb xd)).val = xb := by
  rw [xbField, selector_val, field, toNat_assemble h]
  omega

@[simp] theorem xdField_assemble (h : OperandsFit vd vs1 vs2 len xa xb xd) :
    (xdField (assemble c vd vs1 vs2 len xa xb xd)).val = xd := by
  rw [xdField, selector_val, field, toNat_assemble h]
  omega

@[simp] theorem lvlField_assemble (h : OperandsFit vd vs1 vs2 len xa xb xd) :
    lvlField (assemble c vd vs1 vs2 len xa xb xd) = vd := vdField_assemble h

@[simp] theorem m6Field_assemble (h : OperandsFit vd vs1 vs2 len xa xb xd) :
    m6Field (assemble c vd vs1 vs2 len xa xb xd) = len := lenField_assemble h

end

/-- Reading the fields of a command's word gives the command back, a number only where it fits its field. -/
theorem build_encode {i : Instr} (h : WellFormed i) : i.mnemonic.build (encode i) = i := by
  cases i with
  | isperm | diffu | lbn | dbn | rc | ks => simp [Instr.mnemonic, Mnemonic.build, encode, Fin.ext_iff, OperandsFit]
  | sbox _ _ len | sboxl _ _ len | lin _ _ len | rkey _ _ _ len | ark _ _ _ len | init _ len | round _ _ _ len =>
    have hlen : len < 64 := of_decide_eq_true h
    simp [Instr.mnemonic, Mnemonic.build, encode, Fin.ext_iff, OperandsFit, hlen]
  | config lvl m6 =>
    obtain ⟨hlvl, hm6⟩ : lvl < 4 ∧ m6 < 64 := by simpa [WellFormed, Instr.wellFormed] using h
    simp [Instr.mnemonic, Mnemonic.build, encode, OperandsFit, hlvl, hm6]

/-! ## The round trips and the two refusals -/

/-- A word that matches is its match within the mask and its operand bits outside it. -/
theorem encode_of_selects {c : Mnemonic} {w : Word} (h : c.selects w = true) : encode (c.build w) = w := by
  rw [encode_build, ← Mnemonic.selects_iff.mp h, Format.operandBits, ← BitVec.and_or_distrib_left, BitVec.or_not_self,
    BitVec.and_allOnes]

/-- The word of a command is its row's match and operand bits, and the mask drops the latter. -/
theorem selects_encode {i : Instr} (h : WellFormed i) : i.mnemonic.selects (encode i) = true := by
  have hword := encode_build i.mnemonic (encode i)
  rw [build_encode h] at hword
  rw [Mnemonic.selects_iff, hword, BitVec.and_or_distrib_right, Mnemonic.matchWord_and_mask,
    Format.operandBits_and_mask, BitVec.or_zero]

/-- What is read from the fields of a word fits them. -/
theorem wellFormed_build (c : Mnemonic) (w : Word) : WellFormed (c.build w) := by
  have hlen : fitsLen (field w 12 6) = true := decide_eq_true (field_lt w 12 6)
  have hlvl : fitsLvl (field w 22 2) = true := decide_eq_true (field_lt w 22 2)
  cases c with
  | ISPERM | DIFFU | LBN | DBN | RC | KS => rfl
  | CONFIG => exact Bool.and_eq_true_iff.mpr ⟨hlvl, hlen⟩
  | _ => exact hlen

/-- Settles O2: the word of a command selects its row, and the row's fields are read back from it. -/
theorem decodeOfEncodeIsIdentity : Obligations.DecodeOfEncodeIsIdentity := by
  intro i h
  rw [decode_of_selects (selects_encode h), build_encode h]

/-- Settles O3: a word that decodes is selected by some row, and is the word of what that row builds. -/
theorem encodeOfDecodeIsIdentity : Obligations.EncodeOfDecodeIsIdentity := by
  intro w i h
  obtain ⟨c, hs, rfl⟩ := decode_eq_ok.mp h
  exact ⟨wellFormed_build c w, encode_of_selects hs⟩

/-- The rows the spec lists are the model's mnemonics with their match words and masks (R102, R109). -/
theorem opcodeRows_eq_map : opcodeRows = Mnemonic.all.map fun c => (c, c.matchWord, c.format.mask) := by decide

theorem mem_opcodeRows {row : Mnemonic × Word × Word} :
    row ∈ opcodeRows ↔ ∃ c : Mnemonic, (c, c.matchWord, c.format.mask) = row := by
  rw [opcodeRows_eq_map, List.mem_map]
  exact exists_congr fun c => and_iff_right c.mem_all

/-- Settles O4: among what decodes, the mnemonic names the row that selected the word. -/
theorem decodeSelectsByMaskAndMatch : Obligations.DecodeSelectsByMaskAndMatch := by
  intro row hrow w
  obtain ⟨c, rfl⟩ := mem_opcodeRows.mp hrow
  rw [← Mnemonic.selects_iff]
  constructor
  · rintro ⟨i, hi, hc⟩
    obtain ⟨d, hd, rfl⟩ := decode_eq_ok.mp hi
    have hdc : d = c := (d.mnemonic_build w).symm.trans hc
    rwa [← hdc]
  · intro hs
    exact ⟨c.build w, decode_of_selects hs, c.mnemonic_build w⟩

/-- Settles O5: the rows are the mnemonics, and a row's opcode is the top byte of its match. -/
theorem decodeRejectsByName : Obligations.DecodeRejectsByName := by
  intro w
  have hopc (c : Mnemonic) : w.toNat / 2 ^ 24 = c.matchWord.toNat / 2 ^ 24 ↔ c.opc = opcField w := by
    rw [← opcField_eq_div, ← opcField_eq_div, c.opcField_matchWord, eq_comm]
  constructor
  · simp only [decode_eq_reservedOpcode, mem_opcodeRows, forall_exists_index, forall_apply_eq_imp_iff, ne_eq, hopc]
  · simp only [decode_eq_mustBeZero, mem_opcodeRows, exists_exists_eq_and, hopc, ne_eq, Mnemonic.selects_iff]

/-- Settles O1: the decoder is evaluated on each word. -/
theorem workedEncodingsDecode : Obligations.WorkedEncodingsDecode := by
  unfold Obligations.WorkedEncodingsDecode
  decide

end Sys2Proof
end

section
/-! The host's `wait` (R115): what its polls read before and after the completion step. -/

namespace Sys2Proof.Machine

section
variable {s : State} {ts : List Turn} {w : Word}

/-- A poll while BUSY = 1 reads BUSY = 1 and leaves the command pending (R312). -/
theorem step_poll_of_busy (hturn : s.turns = .read 1 :: ts) (h : s.busy = true) :
    ∃ t n, step s = .next t ∧ t.pend = s.pend ∧ t.turns = ts ∧ t.replies = n :: s.replies ∧ n % 2 = 1 := by
  refine ⟨_, busyStatusWord (Config.busyRead s.draws) s, step_read hturn, ?_⟩
  rw [hostRead_of_busy (by rwa [State.setTurns_busy])]
  refine ⟨rfl, rfl, rfl, ?_⟩
  rw [busyStatusWord, statusOf, Bool.toNat_true]
  omega

/-- The engine's turn completes the pending command, whatever its word, and touches neither the turns to come nor the
replies (R311). -/
theorem step_completes (hpend : s.pend = some w) (hturn : s.turns = .engine :: ts) :
    ∃ t, step s = .next t ∧ t.busy = false ∧ t.turns = ts ∧ t.replies = s.replies := by
  have hstep : step s = complete w (s.setTurns ts) := by
    rw [step_engine hturn, engineTurn, State.setTurns_pend, hpend]
  cases hd : decode w with
  | error e =>
    rw [complete_of_decode_error hd] at hstep
    exact ⟨_, hstep, rfl, rfl, rfl⟩
  | ok i =>
    obtain ⟨t, ht⟩ := exec_next i (s.setTurns ts)
    obtain ⟨-, -, -, hturns, hreplies, -⟩ := exec_keeps_host_state ht
    rw [complete_of_decode_ok hd, ht, finishOutcome_next] at hstep
    exact ⟨t.finish, hstep, rfl, hturns, hreplies⟩

/-- Settles O24, by induction on the polls before the completion step: the first of them replies first. -/
theorem waitEndsAfterCompletion : Obligations.WaitEndsAfterCompletion := by
  intro s w polls ts hpend hturn
  induction polls generalizing s with
  | zero =>
    obtain ⟨t, hstep, hbusy, hturns, hreplies⟩ := step_completes hpend hturn
    have hread := step_read_of_idle hturns hbusy
    refine ⟨_, idleRead t (target 1), [], runs_succ hstep (runs_succ hread (runs_zero _)), rfl, hbusy, ?_, rfl, ?_, ?_⟩
    · rw [hreplies, List.nil_append]
    · rw [target_one, idleRead, statusWord_of_idle hbusy]
      split <;> omega
    · exact fun _ h => absurd h List.not_mem_nil
  | succ polls ih =>
    obtain ⟨u, n, hstep, hupend, huturns, hureplies, hn⟩ :=
      step_poll_of_busy hturn (by rw [State.busy, hpend, Option.isSome_some])
    obtain ⟨t, last, early, hrun, hturns, hbusy, hreplies, hlen, hlast, hearly⟩ := ih u (hupend.trans hpend) huturns
    refine ⟨t, last, early ++ [n], runs_succ hstep hrun, hturns, hbusy, ?_, ?_, hlast, ?_⟩
    · rw [hreplies, hureplies, List.append_assoc, List.singleton_append]
    · rw [List.length_append, hlen, List.length_singleton]
    · exact List.forall_mem_append.mpr ⟨hearly, List.forall_mem_singleton.mpr hn⟩

end

end Sys2Proof.Machine
end

section
/-! The SBox unit (41_sbox.md): what SBOX, SBOXL, ISPERM and DIFFU leave (R142 to R144, R147, R148), and when the S-box is
a bijection (R145, R146). -/

namespace Sys2Proof.Machine

open Sys2Proof.Claims

/-! ## The completion of a command that succeeds -/

theorem exec_of_bodyOf_ok {i : Instr} {s t : State} (h : bodyOf i s = .ok t) : exec i s = .next t.succeed := by
  rw [exec_eq_settle, h, settle_ok]

theorem vectorFrame_setVec (s : State) (vd : VReg) (e : Vec) : VectorFrame vd s (s.setVec vd e).succeed :=
  ⟨⟨rfl, rfl, rfl, rfl, rfl, rfl⟩, ⟨rfl, rfl, rfl⟩, ⟨rfl, rfl, rfl, rfl⟩, ⟨rfl, rfl, rfl⟩, ⟨rfl, fun _ => rfl⟩,
    fun _ => rfl, fun _ h => State.vec_setVec_of_ne s vd e h⟩

theorem scalarFrame_setScalar (s : State) (xd : XReg) (n : Nat) : ScalarFrame xd s (s.setScalar xd n).succeed :=
  ⟨⟨rfl, rfl, rfl, rfl, rfl, rfl⟩, ⟨rfl, rfl, rfl⟩, ⟨rfl, rfl, rfl, rfl⟩, ⟨rfl, rfl, rfl⟩, ⟨rfl, fun _ => rfl⟩,
    fun _ => rfl, fun _ h => State.scalar_setScalar_of_ne s xd n h⟩

section
variable {s : State} {vd vs1 : VReg} {xd : XReg}

/-- What SBOX checks of its source, index by index (R142). -/
theorem tripleCanonical_of_forall {e : Vec} {p : Elem} (h : ∀ k : Fin 36, k.val < 3 → e[k].toNat < p.toNat) :
    TripleCanonical e p :=
  ⟨h 0 (by decide), h 1 (by decide), h 2 (by decide)⟩

theorem exec_sbox (hdev : s.dev ≠ .noparam) (h : TripleCanonical (s.vec vs1) s.p) :
    exec (.sbox vd vs1 3) s = .next (s.setVec vd (setTriple (s.vec vd)
      (sboxMap s.p (s.vec vs1)[0] (s.vec vs1)[1] (s.vec vs1)[2]))).succeed :=
  exec_of_bodyOf_ok (sboxBody_eq_ok.mpr ⟨hdev, rfl, h, rfl⟩)

theorem exec_sboxl (hdev : s.dev ≠ .noparam) (h : AllCanonical (s.vec vs1) s.p) :
    exec (.sboxl vd vs1 36) s = .next (s.setVec vd (sboxLayer s.p (s.vec vs1))).succeed :=
  exec_of_bodyOf_ok (sboxlBody_eq_ok.mpr ⟨hdev, rfl, h, rfl⟩)

theorem exec_isperm (hdev : s.dev ≠ .noparam) : exec (.isperm xd) s = .next (s.setScalar xd 1).succeed :=
  exec_of_bodyOf_ok (ispermBody_eq_ok.mpr ⟨hdev, rfl⟩)

theorem exec_diffu (hdev : s.dev ≠ .noparam) :
    exec (.diffu xd) s = .next (s.setScalar xd (s.p.toNat * s.p.toNat)).succeed :=
  exec_of_bodyOf_ok (diffuBody_eq_ok.mpr ⟨hdev, rfl⟩)

end

/-- A scalar register is wide enough for the square of a modulus (R34, R148). -/
theorem toNat_ofNat_sq (p : Elem) : (BitVec.ofNat 128 (p.toNat * p.toNat)).toNat = p.toNat ^ 2 := by
  have hlt : p.toNat * p.toNat < 2 ^ 64 * 2 ^ 64 := Nat.mul_lt_mul'' p.isLt p.isLt
  rw [BitVec.toNat_ofNat, Nat.mod_eq_of_lt (by omega), sq]

/-- Settles O39: each writes its one scalar register. -/
theorem ispermAndDiffuAnswers : Obligations.IspermAndDiffuAnswers := by
  intro s xd hdev
  refine ⟨⟨_, exec_isperm hdev, rfl, ?_, scalarFrame_setScalar s xd _⟩,
    _, exec_diffu hdev, rfl, ?_, scalarFrame_setScalar s xd _⟩
  · rw [State.succeed_scalar, State.scalar_setScalar_self]; rfl
  · rw [State.succeed_scalar, State.scalar_setScalar_self, toNat_ofNat_sq]

/-! ## The elements that SBOX and SBOXL write -/

theorem getElem_setTriple_zero (e : Vec) (y : Elem × Elem × Elem) : (setTriple e y)[0] = y.1 :=
  getElem_setTriple e y 0

theorem getElem_setTriple_one (e : Vec) (y : Elem × Elem × Elem) : (setTriple e y)[1] = y.2.1 :=
  getElem_setTriple e y 1

theorem getElem_setTriple_two (e : Vec) (y : Elem × Elem × Elem) : (setTriple e y)[2] = y.2.2 :=
  getElem_setTriple e y 2

/-- Element i of triple q of the layer (R143). -/
theorem getElem_sboxLayer (p : Elem) (a : Vec) (q : Fin 12) (i : Fin 3) {k : Fin 36} (hk : k.val = 3 * q.val + i.val) :
    (sboxLayer p a)[k] = pick (sboxMap p a[3 * q.val] a[3 * q.val + 1] a[3 * q.val + 2]) i := by
  have hq : k.val / 3 = q.val := by omega
  have hi : k.val % 3 = i.val := by omega
  rw [sboxLayer, getElem_tabulate_fin]
  simp only [hq, hi]

/-- The S-box on registers is the S-box on numbers (R141). -/
theorem sboxImage_sboxMap {p : Elem} (hp : 0 < p.toNat) (x0 x1 x2 : Elem) :
    SboxImage p.toNat x0.toNat x1.toNat x2.toNat (sboxMap p x0 x1 x2).1.toNat (sboxMap p x0 x1 x2).2.1.toNat
      (sboxMap p x0 x1 x2).2.2.toNat := by
  refine ⟨rfl, ?_, ?_⟩ <;> rw [sboxMap, toNat_elemMod _ hp, cast_mod _ hp]

/-- Settles O36: elements 0..2 of what SBOX leaves are the S-box's, and the rest the destination's own. -/
theorem sboxWritesTheImageOfItsTriple : Obligations.SboxWritesTheImageOfItsTriple := by
  intro s vd vs1 hdev hc
  obtain ⟨h0, h1, h2⟩ := tripleCanonical_of_forall hc
  refine ⟨_, exec_sbox hdev ⟨h0, h1, h2⟩, rfl, ?_, ?_, vectorFrame_setVec s vd _⟩
  · rw [State.succeed_vec, State.vec_setVec_self, getElem_setTriple_zero, getElem_setTriple_one, getElem_setTriple_two]
    exact sboxImage_sboxMap (Nat.zero_lt_of_lt h0) _ _ _
  · intro k hk
    rw [State.succeed_vec, State.vec_setVec_self, getElem_setTriple, if_neg (Nat.not_lt.mpr hk)]

/-- Settles O38: triple q of the layer is the S-box of triple q. -/
theorem sboxlWritesTwelveImages : Obligations.SboxlWritesTwelveImages := by
  intro s vd vs1 hdev hc
  refine ⟨_, exec_sboxl hdev hc, rfl, vectorFrame_setVec s vd _, ?_⟩
  intro q k0 k1 k2 hk0 hk1 hk2
  rw [State.succeed_vec, State.vec_setVec_self, getElem_sboxLayer _ _ q 0 hk0, getElem_sboxLayer _ _ q 1 hk1,
    getElem_sboxLayer _ _ q 2 hk2]
  simp only [Fin.getElem_fin, hk0, hk1, hk2]
  exact sboxImage_sboxMap (Nat.zero_lt_of_lt (hc 0)) _ _ _

/-! ## The S-box over the integers mod p (R17) -/

section
variable {p : Elem}

/-- A canonical element is the residue of an integer exactly when they agree mod p. -/
theorem elemMod_eq_iff {a : Int} {y : Elem} (hy : Canonical y p) :
    elemMod a p = y ↔ (a : ZMod p.toNat) = (y.toNat : ZMod p.toNat) := by
  have hp : 0 < p.toNat := Nat.zero_lt_of_lt hy
  have hmod : (y.toNat : Int) % p.toNat = y.toNat := Int.emod_eq_of_lt (by omega) (by exact_mod_cast hy)
  rw [← BitVec.toNat_inj, toNat_elemMod a hp, ← Int.natCast_inj, cast_mod a hp, ← Int.cast_natCast (R := ZMod p.toNat),
    ZMod.intCast_eq_intCast_iff', hmod]

theorem natCast_toNat_elemMod (hp : 0 < p.toNat) (a : Int) : ((elemMod a p).toNat : ZMod p.toNat) = (a : ZMod p.toNat) :=
  ((elemMod_eq_iff (canonical_elemMod a hp)).mp rfl).symm

/-- R141 as equations mod p. -/
theorem sboxMap_eq_iff {x0 x1 x2 y0 y1 y2 : Elem} (h1 : Canonical y1 p) (h2 : Canonical y2 p) :
    sboxMap p x0 x1 x2 = (y0, y1, y2) ↔ x0 = y0 ∧
      (x0.toNat * x2.toNat + x1.toNat : ZMod p.toNat) = y1.toNat ∧
      (-x0.toNat * x1.toNat + x0.toNat * x2.toNat + x2.toNat : ZMod p.toNat) = y2.toNat := by
  rw [sboxMap, Prod.mk.injEq, Prod.mk.injEq, elemMod_eq_iff h1, elemMod_eq_iff h2]
  push_cast
  rfl

/-! ## The corner cases (R142) -/

theorem sboxMap_of_eq_zero {x0 x1 x2 : Elem} (h1 : Canonical x1 p) (h2 : Canonical x2 p) (h0 : x0.toNat = 0) :
    sboxMap p x0 x1 x2 = (x0, x1, x2) := by
  rw [sboxMap_eq_iff h1 h2, h0]
  simp

/-- p - 1 is -1 mod p. -/
theorem sboxMap_of_eq_pred {x0 x1 x2 : Elem} (h1 : Canonical x1 p) (h0 : x0.toNat = p.toNat - 1) :
    sboxMap p x0 x1 x2 = (x0, elemMod (x1.toNat - x2.toNat) p, x1) := by
  have hp : 0 < p.toNat := Nat.zero_lt_of_lt h1
  have hneg : (x0.toNat : ZMod p.toNat) = -1 := by
    rw [h0, Nat.cast_sub hp, ZMod.natCast_self, Nat.cast_one, zero_sub]
  rw [sboxMap_eq_iff (canonical_elemMod _ hp) h1, natCast_toNat_elemMod hp, hneg]
  push_cast
  refine ⟨rfl, ?_, ?_⟩ <;> ring

end

/-- Settles O37: what SBOX leaves is the S-box's output, which the two lemmas above give. -/
theorem sboxCornerCases : Obligations.SboxCornerCases := by
  intro s t vd vs1 hdev hc h
  obtain ⟨h0, h1, h2⟩ := tripleCanonical_of_forall hc
  cases (exec_sbox hdev ⟨h0, h1, h2⟩).symm.trans h
  rw [State.succeed_vec, State.vec_setVec_self, getElem_setTriple_zero, getElem_setTriple_one, getElem_setTriple_two]
  constructor
  · intro hx
    rw [sboxMap_of_eq_zero h1 h2 hx]
    exact ⟨rfl, rfl, rfl⟩
  · intro hx
    rw [sboxMap_of_eq_pred h1 hx, toNat_elemMod _ (Nat.zero_lt_of_lt h0), cast_mod _ (Nat.zero_lt_of_lt h0)]
    exact ⟨hx, rfl, rfl⟩

/-! ## The inverse, where the determinant has one (R145) -/

/-- For a fixed first input the S-box is a linear map of determinant a² + a + 1, inverted by its adjugate. -/
theorem sbox_linear_solve {R : Type*} [CommRing R] {a e x1 x2 y1 y2 : R} (he : (a ^ 2 + a + 1) * e = 1) :
    a * x2 + x1 = y1 ∧ -a * x1 + a * x2 + x2 = y2 ↔
      x1 = ((a + 1) * y1 - a * y2) * e ∧ x2 = (a * y1 + y2) * e := by
  constructor
  · rintro ⟨rfl, rfl⟩
    constructor
    · linear_combination -x1 * he
    · linear_combination -x2 * he
  · rintro ⟨rfl, rfl⟩
    constructor
    · linear_combination y1 * he
    · linear_combination y2 * he

/-- The formula of R145, with e for the inverse of the determinant. -/
def sboxInverse (p y0 y1 y2 : Elem) (e : Nat) : Elem × Elem × Elem :=
  (y0, elemMod ((((y0.toNat : Int) + 1) * y1.toNat - y0.toNat * y2.toNat) * e) p,
    elemMod (((y0.toNat : Int) * y1.toNat + y2.toNat) * e) p)

section
variable {p y0 y1 y2 : Elem} {e : Nat} (h0 : Canonical y0 p) (h1 : Canonical y1 p) (h2 : Canonical y2 p)
  (he : (y0.toNat ^ 2 + y0.toNat + 1) * e % p.toNat = 1)
include h1 h2 he

/-- On canonical triples the S-box and the formula invert each other. -/
theorem sboxMap_eq_iff_sboxInverse_eq {x0 x1 x2 : Elem} (hx1 : Canonical x1 p) (hx2 : Canonical x2 p) :
    sboxMap p x0 x1 x2 = (y0, y1, y2) ↔ sboxInverse p y0 y1 y2 e = (x0, x1, x2) := by
  have hdet : ((y0.toNat : ZMod p.toNat) ^ 2 + y0.toNat + 1) * e = 1 := by
    have hcast := congrArg (Nat.cast (R := ZMod p.toNat)) he
    rw [ZMod.natCast_mod] at hcast
    exact_mod_cast hcast
  rw [sboxMap_eq_iff h1 h2, sboxInverse, Prod.mk.injEq, Prod.mk.injEq, elemMod_eq_iff hx1, elemMod_eq_iff hx2]
  push_cast
  rw [eq_comm (a := y0)]
  refine and_congr_right ?_
  rintro rfl
  rw [sbox_linear_solve hdet, eq_comm, eq_comm (a := (x2.toNat : ZMod p.toNat))]

include h0

theorem existsUnique_preimage :
    ∃! x : Elem × Elem × Elem,
      (Canonical x.1 p ∧ Canonical x.2.1 p ∧ Canonical x.2.2 p) ∧ sboxMap p x.1 x.2.1 x.2.2 = (y0, y1, y2) := by
  have hp : 0 < p.toNat := Nat.zero_lt_of_lt h0
  have hc1 := canonical_elemMod ((((y0.toNat : Int) + 1) * y1.toNat - y0.toNat * y2.toNat) * e) hp
  have hc2 := canonical_elemMod (((y0.toNat : Int) * y1.toNat + y2.toNat) * e) hp
  refine ⟨sboxInverse p y0 y1 y2 e, ⟨⟨h0, hc1, hc2⟩, ?_⟩, ?_⟩
  · exact (sboxMap_eq_iff_sboxInverse_eq h1 h2 he hc1 hc2).mpr rfl
  · rintro ⟨x0, x1, x2⟩ ⟨⟨-, hx1, hx2⟩, hx⟩
    exact ((sboxMap_eq_iff_sboxInverse_eq h1 h2 he hx1 hx2).mp hx).symm

end

/-! ## The primes that divide a determinant (R145, R146) -/

/-- A root of a² + a + 1 is 1 or has order 3. -/
theorem eq_three_or_mod_three_of_dvd {q a : Nat} (hq : q.Prime) (h : q ∣ a ^ 2 + a + 1) : q = 3 ∨ q % 3 = 1 := by
  have : Fact q.Prime := ⟨hq⟩
  have hroot : (a : ZMod q) ^ 2 + a + 1 = 0 := by exact_mod_cast (ZMod.natCast_eq_zero_iff _ q).mpr h
  have hcube : (a : ZMod q) ^ 3 = 1 := by linear_combination ((a : ZMod q) - 1) * hroot
  by_cases h1 : (a : ZMod q) = 1
  · left
    rw [h1] at hroot
    have h3 : ((3 : Nat) : ZMod q) = 0 := by push_cast; linear_combination hroot
    exact (Nat.prime_dvd_prime_iff_eq hq Nat.prime_three).mp ((ZMod.natCast_eq_zero_iff 3 q).mp h3)
  · right
    have hne : (a : ZMod q) ≠ 0 := by
      intro h0
      rw [h0] at hcube
      exact absurd hcube (by norm_num)
    have hdvd : 3 ∣ q - 1 := orderOf_eq_prime hcube h1 ▸ ZMod.orderOf_dvd_card_sub_one hne
    have := hq.two_le
    omega

/-- An element of order 3 is a root of a² + a + 1. -/
theorem exists_dvd_of_mod_three {q : Nat} (hq : q.Prime) (h : q % 3 = 1) : ∃ a < q, q ∣ a ^ 2 + a + 1 := by
  have : Fact q.Prime := ⟨hq⟩
  have hcard : 3 ∣ Fintype.card (ZMod q)ˣ := by rw [ZMod.card_units]; omega
  obtain ⟨u, hu⟩ := exists_prime_orderOf_dvd_card 3 hcard
  have hcube : (u : ZMod q) ^ 3 = 1 := by rw [← Units.val_pow_eq_pow_val, ← hu, pow_orderOf_eq_one, Units.val_one]
  have hne : (u : ZMod q) - 1 ≠ 0 := by
    intro h1
    rw [orderOf_eq_one_iff.mpr (Units.val_eq_one.mp (sub_eq_zero.mp h1))] at hu
    exact absurd hu (by decide)
  have hprod : ((u : ZMod q) - 1) * (u ^ 2 + u + 1) = 0 := by linear_combination hcube
  have hroot : (u : ZMod q) ^ 2 + u + 1 = 0 :=
    (mul_eq_zero.mp hprod).resolve_left hne
  refine ⟨(u : ZMod q).val, ZMod.val_lt _, (ZMod.natCast_eq_zero_iff _ q).mp ?_⟩
  push_cast
  rw [ZMod.natCast_zmod_val, hroot]

/-- R146: a modulus that is 2 mod 3 and has no prime factor 1 mod 3 shares no factor with a determinant. -/
theorem exists_inverse_det {n : Nat} (hn : n % 3 = 2) (hfactor : ∀ q : Nat, q.Prime → q ∣ n → q % 3 ≠ 1) (a : Nat) :
    ∃ e, (a ^ 2 + a + 1) * e % n = 1 := by
  have hcop : Nat.Coprime (a ^ 2 + a + 1) n := by
    refine Nat.coprime_of_dvd fun q hq hdet hqn => ?_
    rcases eq_three_or_mod_three_of_dvd hq hdet with rfl | h1
    · omega
    · exact hfactor q hq hqn h1
  obtain ⟨e, -, he⟩ := Nat.exists_mul_mod_eq_one_of_coprime hcop (by omega)
  exact ⟨e, he⟩

/-- Settles O40: the only prime factor of a prime is itself. -/
theorem sboxIsBijectiveForPrimeModulus : Obligations.SboxIsBijectiveForPrimeModulus := by
  intro p hprime hmod y0 y1 y2 h0 h1 h2
  have hp : 0 < p.toNat := hprime.pos
  have hfactor : ∀ q : Nat, q.Prime → q ∣ p.toNat → q % 3 ≠ 1 := by
    intro q hq hqp
    rw [(Nat.prime_dvd_prime_iff_eq hq hprime).mp hqp, hmod]
    decide
  obtain ⟨e, he⟩ := exists_inverse_det hmod hfactor y0.toNat
  exact ⟨existsUnique_preimage h0 h1 h2 he, e, he,
    (sboxMap_eq_iff_sboxInverse_eq h1 h2 he (canonical_elemMod _ hp) (canonical_elemMod _ hp)).mpr rfl⟩

/-! ## Moduli for which the S-box is not injective (R146) -/

section
variable {p a : Elem} (hp : 0 < p.toNat)
include hp

theorem canonical_zero : Canonical 0 p := hp

theorem sboxMap_zero_zero : sboxMap p a 0 0 = (a, 0, 0) := by
  rw [sboxMap_eq_iff (canonical_zero hp) (canonical_zero hp)]
  simp

/-- (x1, x2) = (-a k, k) is a second solution of the equations for (0, 0) where p divides the determinant times k. -/
theorem sboxMap_eq_zero_of_dvd {k : Elem} (h : p.toNat ∣ (a.toNat ^ 2 + a.toNat + 1) * k.toNat) :
    sboxMap p a (elemMod (-(a.toNat * k.toNat)) p) k = (a, 0, 0) := by
  have hdet : ((a.toNat : ZMod p.toNat) ^ 2 + a.toNat + 1) * k.toNat = 0 := by
    exact_mod_cast (ZMod.natCast_eq_zero_iff _ p.toNat).mpr h
  have hzero : ((0 : Elem).toNat : ZMod p.toNat) = 0 := Nat.cast_zero
  rw [sboxMap_eq_iff (canonical_zero hp) (canonical_zero hp), natCast_toNat_elemMod hp, hzero]
  push_cast
  refine ⟨rfl, ?_, ?_⟩
  · ring
  · linear_combination hdet

end

/-- A prime factor that is 1 mod 3 divides the determinant of some a, and (a, 0, 0) then has a preimage beside itself. -/
theorem exists_second_preimage {p : Elem} {q : Nat} (hp : 0 < p.toNat) (hq : q.Prime) (hqp : q ∣ p.toNat)
    (hmod : q % 3 = 1) :
    ∃ a b k : Elem, Canonical a p ∧ Canonical b p ∧ Canonical k p ∧ k ≠ 0 ∧ sboxMap p a b k = (a, 0, 0) := by
  obtain ⟨a, haq, hdet⟩ := exists_dvd_of_mod_three hq hmod
  obtain ⟨k, hpk⟩ := hqp
  have hk : 0 < k := Nat.pos_of_mul_pos_left (hpk ▸ hp)
  have hkp : k < p.toNat := hpk ▸ lt_mul_of_one_lt_left hk hq.one_lt
  have hap : a < p.toNat := haq.trans_le (hpk ▸ Nat.le_mul_of_pos_right q hk)
  have hka : (BitVec.ofNat 64 k).toNat = k := Nat.mod_eq_of_lt (hkp.trans p.isLt)
  have haa : (BitVec.ofNat 64 a).toNat = a := Nat.mod_eq_of_lt (hap.trans p.isLt)
  refine ⟨BitVec.ofNat 64 a, _, BitVec.ofNat 64 k, ?_, canonical_elemMod _ hp, ?_, ?_, sboxMap_eq_zero_of_dvd hp ?_⟩
  · rwa [Canonical, haa]
  · rwa [Canonical, hka]
  · intro h0
    rw [h0] at hka
    exact hk.ne hka
  · rw [haa, hka, hpk]
    exact Nat.mul_dvd_mul_right hdet k

/-- Settles O41: without such a factor every determinant has an inverse, and with one (a, 0, 0) has two preimages. -/
theorem sboxIsBijectiveExactlyWithoutFactorOneModThree : Obligations.SboxIsBijectiveExactlyWithoutFactorOneModThree := by
  rintro p ⟨hmod, hlarge⟩
  have hp : 0 < p.toNat := Nat.zero_lt_of_lt hlarge
  constructor
  · intro hbij q hq hqp h1
    obtain ⟨a, b, k, ha, hb, hk, hk0, himage⟩ := exists_second_preimage hp hq hqp h1
    have heq := (hbij a 0 0 ha hp hp).unique (y₁ := (a, b, k)) (y₂ := (a, 0, 0)) ⟨⟨ha, hb, hk⟩, himage⟩
      ⟨⟨ha, hp, hp⟩, sboxMap_zero_zero hp⟩
    exact hk0 (congrArg (fun x => x.2.2) heq)
  · intro hfactor y0 y1 y2 h0 h1 h2
    obtain ⟨e, he⟩ := exists_inverse_det hmod hfactor y0.toNat
    exact existsUnique_preimage h0 h1 h2 he

/-- Settles O42: the determinant of 2 is 7, a factor of 65555, and 9365 is the cofactor. -/
theorem sboxIsNotInjectiveForCompositeModulus : Obligations.SboxIsNotInjectiveForCompositeModulus :=
  ⟨by decide, 2, 0, 0, 46825, 9365, by decide⟩

end Sys2Proof.Machine
end

section
/-! The LinearLayer unit (42_linear.md): what LIN, LBN and DBN leave (R172, R175, R176), that L_p is linear (R174), and that
the table-driven evaluation computes it (R173). -/

namespace Sys2Proof.Machine

/-! ## What LIN, LBN and DBN leave -/

theorem exec_lin {s : State} {vd vs1 : VReg} (hdev : s.dev ≠ .noparam) (h : AllCanonical (s.vec vs1) s.p) :
    exec (.lin vd vs1 36) s = .next (s.setVec vd (linearLayer params s.p (s.vec vs1))).succeed :=
  exec_of_bodyOf_ok (linBody_eq_ok.mpr ⟨hdev, rfl, h, rfl⟩)

theorem exec_lbn (s : State) (xd : XReg) : exec (.lbn xd) s = .next (s.setScalar xd 6).succeed :=
  exec_of_bodyOf_ok (lbnBody_eq_ok.mpr rfl)

theorem exec_dbn (s : State) (xd : XReg) : exec (.dbn xd) s = .next (s.setScalar xd 10).succeed :=
  exec_of_bodyOf_ok (dbnBody_eq_ok.mpr rfl)

/-- Settles O43: element r of L_p is the row sum mod p, and a canonical source makes p positive. -/
theorem linWritesMatrixProduct : Obligations.LinWritesMatrixProduct := by
  intro s vd vs1 hdev hc
  refine ⟨_, exec_lin hdev hc, rfl, vectorFrame_setVec s vd _, fun r => ?_⟩
  rw [State.succeed_vec, State.vec_setVec_self, toNat_linearLayer (Nat.zero_lt_of_lt (hc 0)), rowSum_eq_sum]
  rfl

/-- Settles O46: both bodies succeed in every state, with their constant. -/
theorem branchNumberAnswers : Obligations.BranchNumberAnswers := by
  intro s xd
  refine ⟨⟨_, exec_lbn s xd, rfl, ?_, scalarFrame_setScalar s xd _⟩,
    _, exec_dbn s xd, rfl, ?_, scalarFrame_setScalar s xd _⟩
  · rw [State.succeed_scalar, State.scalar_setScalar_self]; rfl
  · rw [State.succeed_scalar, State.scalar_setScalar_self]; rfl

/-! ## L_p is linear (R174) -/

section
variable {p : Elem} (hp : 0 < p.toNat) (c : Params)
include hp

/-- Row by row, the sum of a vector sum is the sum of the row sums, up to the reductions. -/
theorem rowSum_addVec_modEq (a b : Vec) (r : Fin 36) :
    rowSum c (addVec p a b) r ≡ rowSum c a r + rowSum c b r [MOD p.toNat] := by
  simp only [rowSum_eq_sum, ← Finset.sum_add_distrib]
  refine Nat.ModEq.sum fun k _ => ?_
  split
  · rw [toNat_addVec hp]
    exact Nat.mod_modEq _ _
  · rfl

/-- Row by row, the sum of a multiple is the multiple of the row sum, up to the reductions. -/
theorem rowSum_mul_modEq (l : Nat) (a : Vec) (r : Fin 36) :
    rowSum c (tabulate fun k => elemMod ((l : Int) * a[k].toNat) p) r ≡ l * rowSum c a r [MOD p.toNat] := by
  simp only [rowSum_eq_sum, Finset.mul_sum]
  refine Nat.ModEq.sum fun k _ => ?_
  split
  · rw [getElem_tabulate_fin, toNat_elemMod _ hp, ← Nat.cast_mul, mod_natCast]
    exact Nat.mod_modEq _ _
  · rfl

theorem toNat_linearLayer_addVec (a b : Vec) (r : Fin 36) :
    (linearLayer c p (addVec p a b))[r].toNat =
      ((linearLayer c p a)[r].toNat + (linearLayer c p b)[r].toNat) % p.toNat := by
  simp only [toNat_linearLayer hp, ← Nat.add_mod]
  exact rowSum_addVec_modEq hp c a b r

theorem toNat_linearLayer_mul (l : Nat) (a : Vec) (r : Fin 36) :
    (linearLayer c p (tabulate fun k => elemMod ((l : Int) * a[k].toNat) p))[r].toNat =
      l * (linearLayer c p a)[r].toNat % p.toNat := by
  simp only [toNat_linearLayer hp, Nat.mul_mod_mod]
  exact rowSum_mul_modEq hp c l a r

end

/-- On the all-ones vector a row sum counts the ones of the row. -/
theorem rowSum_ones (c : Params) (r : Fin 36) :
    rowSum c (Vector.replicate 36 1) r = (Finset.univ.filter fun k => c.matrix r k = true).card := by
  rw [rowSum_eq_sum, Finset.card_filter]
  refine Finset.sum_congr rfl fun k _ => ?_
  rw [Fin.getElem_fin, Vector.getElem_replicate]
  rfl

/-- A count of at most 36 is not reduced by a larger modulus. -/
theorem linearLayer_ones_ne_zero_iff {p : Elem} (hp : 36 < p.toNat) (c : Params) (r : Fin 36) :
    (linearLayer c p (Vector.replicate 36 1))[r].toNat ≠ 0 ↔ ∃ k, c.matrix r k = true := by
  have hle : rowSum c (Vector.replicate 36 1) r ≤ 36 := rowSum_ones c r ▸ Finset.card_le_univ _
  rw [toNat_linearLayer (Nat.zero_lt_of_lt hp), Nat.mod_eq_of_lt (hle.trans_lt hp), rowSum_ones, Finset.card_ne_zero,
    Finset.filter_nonempty_iff]
  simp only [Finset.mem_univ, true_and]

/-- Settles O44: an accepted modulus is above 2^16, so above 36. -/
theorem linearLayerIsLinear : Obligations.LinearLayerIsLinear := by
  rintro c p ⟨-, hlarge⟩
  have hp : 36 < p.toNat := (by decide : 36 < 2 ^ 16).trans hlarge
  have hpos : 0 < p.toNat := Nat.zero_lt_of_lt hp
  exact ⟨toNat_linearLayer_addVec hpos c, toNat_linearLayer_mul hpos c,
    exists_congr (linearLayer_ones_ne_zero_iff hp c)⟩

/-! ## The table-driven evaluation (R173) -/

/-- The bits of a 4-bit mask are the bits it was put together from. -/
theorem testBit_mask : ∀ (f : Fin 4 → Bool) (b : Fin 4),
    (Fin.ofNat 16 (List.ofFn fun b : Fin 4 => (f b).toNat * 2 ^ b.val).sum).val.testBit b.val = f b := by
  decide

theorem testBit_rowMask (c : Params) (r : Fin 36) (g : Fin 9) (b : Fin 4) :
    (rowMask c r g).val.testBit b.val = c.matrix r (groupColumn g b) :=
  testBit_mask (fun b => c.matrix r (groupColumn g b)) b

/-- A table entry sums the columns of its group that its mask selects. -/
theorem sum_map_tableEntry (f : Fin 36 → Nat) (g : Fin 9) (mask : Fin 16) :
    ((tableEntry g mask).map f).sum = ∑ b : Fin 4, if mask.val.testBit b.val then f (groupColumn g b) else 0 := by
  have hsplit := List.sum_map_ite (fun b : Fin 4 => mask.val.testBit b.val = true) (fun b => f (groupColumn g b))
    (fun _ => 0) (List.ofFn id)
  rw [← List.sum_ofFn]
  simpa [tableEntry, Function.comp_def] using hsplit.symm

/-- The nine groups of four columns are the 36 columns. -/
theorem sum_groupColumn (f : Fin 36 → Nat) : ∑ g : Fin 9, ∑ b : Fin 4, f (groupColumn g b) = ∑ k : Fin 36, f k := by
  rw [← Fintype.sum_prod_type', ← (finProdFinEquiv : Fin 9 × Fin 4 ≃ Fin 36).sum_comp]
  refine Finset.sum_congr rfl fun q _ => congrArg f (Fin.ext ?_)
  exact Nat.add_comm _ _

/-- The nine lookups of a row add up to its row sum. -/
theorem sum_lookups_eq_rowSum (c : Params) (x : Vec) (r : Fin 36) :
    (List.ofFn fun g : Fin 9 => ((tableEntry g (rowMask c r g)).map fun k => x[k].toNat).sum).sum = rowSum c x r := by
  simp only [List.sum_ofFn, sum_map_tableEntry, testBit_rowMask]
  rw [rowSum_eq_sum, sum_groupColumn fun k => if c.matrix r k then x[k].toNat else 0]

/-- Settles O45: element by element both evaluations reduce the same row sum. -/
theorem tableEvaluationEqualsLinearLayer : Obligations.TableEvaluationEqualsLinearLayer := by
  intro c p x
  simp only [linearByTable, linearLayer, sum_lookups_eq_rowSum]

end Sys2Proof.Machine
end

section
/-! The RoundKeyGenerator unit (43_roundkey.md): the round constant that a hash output spells (R201 to R203), and what RC,
RKEY and ARK leave (R204 to R206). -/

namespace Sys2Proof.Machine

open Sys2Proof.Claims

/-! ## What RC, RKEY and ARK leave -/

section
variable {s : State} {vd vs1 vs2 : VReg}

/-- A constant there is becomes the destination (R204). -/
theorem exec_rc {xa xb : XReg} {r : Vec} (hdev : s.dev = .ready) (ha : InRange32 (s.scalar xa))
    (hb : InRange32 (s.scalar xb))
    (hr : roundConstant params s.nonceBytes (s.scalar xa).toNat (s.scalar xb).toNat s.p = some r) :
    exec (.rc vd xa xb) s = .next (s.setVec vd r).succeed :=
  exec_of_bodyOf_ok (rcBody_eq_ok.mpr ⟨hdev, ⟨ha, hb⟩, r, hr, rfl⟩)

theorem exec_rkey (hdev : s.dev ≠ .noparam) (h1 : AllCanonical (s.vec vs1) s.p) (h2 : AllCanonical (s.vec vs2) s.p) :
    exec (.rkey vd vs1 vs2 36) s = .next (s.setVec vd (mulVec s.p (s.vec vs1) (s.vec vs2))).succeed :=
  exec_of_bodyOf_ok (rkeyBody_eq_ok.mpr ⟨hdev, rfl, ⟨h1, h2⟩, rfl⟩)

theorem exec_ark (hdev : s.dev ≠ .noparam) (h1 : AllCanonical (s.vec vs1) s.p) (h2 : AllCanonical (s.vec vs2) s.p) :
    exec (.ark vd vs1 vs2 36) s = .next (s.setVec vd (addVec s.p (s.vec vs1) (s.vec vs2))).succeed :=
  exec_of_bodyOf_ok (arkBody_eq_ok.mpr ⟨hdev, rfl, ⟨h1, h2⟩, rfl⟩)

end

/-- Settles O49: element k of `mulVec` is the product mod p, and a canonical source makes p positive. -/
theorem rkeyWritesProducts : Obligations.RkeyWritesProducts := by
  intro s vd vs1 vs2 hdev hc
  refine ⟨_, exec_rkey hdev (fun k => (hc k).1) (fun k => (hc k).2), rfl, vectorFrame_setVec s vd _, fun k => ?_⟩
  rw [State.succeed_vec, State.vec_setVec_self, toNat_mulVec (Nat.zero_lt_of_lt (hc 0).1)]

/-- Settles O50: element k of `addVec` is the sum mod p, and a canonical source makes p positive. -/
theorem arkWritesSums : Obligations.ArkWritesSums := by
  intro s vd vs1 vs2 hdev hc
  refine ⟨_, exec_ark hdev (fun k => (hc k).1) (fun k => (hc k).2), rfl, vectorFrame_setVec s vd _, fun k => ?_⟩
  rw [State.succeed_vec, State.vec_setVec_self, toNat_addVec (Nat.zero_lt_of_lt (hc 0).1)]

/-! ## The bytes that go into the hash and come out of it (R202, R203) -/

theorem bytes32_big (n : Nat) : bytes32 .big n = be32 n := rfl

theorem hashInput_of_big {c : Params} (h : c.indexOrder = .big) (nonce : List Byte) (i j : Nat) :
    hashInput c nonce i j = nonce ++ be32 j ++ be32 i := by
  rw [hashInput, h, bytes32_big, bytes32_big]

theorem natOfBytes_concat (bs : List Byte) (b : Byte) : natOfBytes (bs.concat b) = natOfBytes bs * 256 + b.toNat := by
  rw [natOfBytes, natOfBytes, List.concat_eq_append, List.foldl_append, List.foldl_cons, List.foldl_nil]

/-- A byte string is a numeral to the base 2^8, its first digit the highest. By induction on the number of bytes: one
more byte at the end moves every other one up by a place. -/
theorem natOfBytes_ofFn {n : Nat} (f : Fin n → Byte) :
    natOfBytes (List.ofFn f) = ∑ t : Fin n, (f t).toNat * 2 ^ (8 * (n - 1 - t.val)) := by
  induction n with
  | zero => rfl
  | succ n ih =>
    have hplace (t : Fin n) : 2 ^ (8 * (n - t.val)) = 2 ^ (8 * (n - 1 - t.val)) * 256 := by
      rw [show 8 * (n - t.val) = 8 * (n - 1 - t.val) + 8 by omega, pow_add]
      norm_num
    rw [List.ofFn_succ', natOfBytes_concat, ih, Fin.sum_univ_castSucc, Finset.sum_mul]
    simp [hplace, mul_assoc]

/-- Bytes m to m + n - 1 of a list that has them. -/
theorem take_drop_eq_ofFn {h : List Byte} {m n : Nat} (hm : m + n ≤ h.length) :
    (h.drop m).take n = List.ofFn fun t : Fin n => h.getD (m + t.val) 0 := by
  refine List.ext_getElem (by simp; omega) fun t _ ht => ?_
  rw [List.length_ofFn] at ht
  rw [List.getElem_take, List.getElem_drop, List.getElem_ofFn, List.getD_eq_getElem _ _ (by omega)]

/-- Chunk k in big-endian order is the number R203 gives. -/
theorem chunk_of_big {c : Params} (hc : c.chunkOrder = .big) (h : Vector Byte 288) (k : Fin 36) :
    chunk c h k = chunkValue h.toList k.val := by
  have hlen : 8 * k.val + 8 ≤ h.toList.length := by rw [Vector.length_toList]; omega
  rw [chunk, hc, chunkToNat, take_drop_eq_ofFn hlen, natOfBytes_ofFn, chunkValue]

/-! ## The round constant (R201, R203) -/

theorem roundConstant_eq_map (c : Params) (nonce : List Byte) (i j : Nat) (p : Elem) :
    roundConstant c nonce i j p =
      (c.xof (hashInput c nonce i j) 288).map fun h => tabulate fun k => forceNonzero (elemMod (chunk c h k) p) := by
  unfold roundConstant
  cases c.xof (hashInput c nonce i j) 288 <;> rfl

theorem toNat_forceNonzero (e : Elem) : (forceNonzero e).toNat = if e.toNat = 0 then 1 else e.toNat := by
  have hzero : e = 0 ↔ e.toNat = 0 := BitVec.toNat_inj.symm
  simp only [forceNonzero, apply_ite BitVec.toNat, hzero]
  rfl

/-- The register holds the constant of R203. -/
theorem toNat_forceNonzero_elemMod {p : Elem} (hp : 0 < p.toNat) (n : Nat) :
    (forceNonzero (elemMod n p)).toNat = constantOf n p.toNat := by
  rw [toNat_forceNonzero, toNat_elemMod _ hp, mod_natCast, constantOf]

/-- A round-constant element lies in [1, p-1] (R201). -/
theorem constantOf_mem {p : Nat} (hp : 1 < p) (n : Nat) : 1 ≤ constantOf n p ∧ constantOf n p < p := by
  unfold constantOf
  split
  · exact ⟨le_rfl, hp⟩
  · next h => exact ⟨Nat.pos_of_ne_zero h, Nat.mod_lt n (by omega)⟩

/-- Settles O48: the constant is the hash output mapped chunk by chunk, and an accepted modulus is above 1. -/
theorem roundConstantOfAnyHash : Obligations.RoundConstantOfAnyHash := by
  rintro c n i j p ⟨-, hlarge⟩ hindex hchunk
  have hp : 1 < p.toNat := (by decide : 1 < 2 ^ 16).trans hlarge
  rw [roundConstant_eq_map, hashInput_of_big hindex]
  constructor
  · intro hfail
    rw [hfail, Option.map_none]
  · intro h hout
    rw [hout, Option.map_some]
    refine ⟨_, rfl, fun k => ?_⟩
    rw [getElem_tabulate_fin, toNat_forceNonzero_elemMod (Nat.zero_lt_of_lt hp), chunk_of_big hchunk]
    exact ⟨rfl, constantOf_mem hp _⟩

/-- SHAKE128 as the XOF of `params` gives the bytes of `shake128Bytes` (log entry 7). -/
theorem exists_xof_params (msg : List Byte) (n : Nat) :
    ∃ h, params.xof msg n = some h ∧ h.toList = shake128Bytes msg n :=
  ⟨_, rfl, rfl⟩

/-- Settles O47: SHAKE128 never fails, so the constant that O48 describes is there, and RC writes it. -/
theorem rcWritesTheRoundConstant : Obligations.RcWritesTheRoundConstant := by
  intro s vd xa xb hs hdev ha hb
  have hp : ModulusOk s.p := hs.modulus (by simp [hdev])
  obtain ⟨h, hout, hbytes⟩ :=
    exists_xof_params (s.nonceBytes ++ be32 (s.scalar xb).toNat ++ be32 (s.scalar xa).toNat) 288
  obtain ⟨r, hr, hk⟩ := (roundConstantOfAnyHash params _ _ _ s.p hp rfl rfl).2 h hout
  refine ⟨_, exec_rc hdev ha hb hr, rfl, vectorFrame_setVec s vd r, fun k => ?_⟩
  rw [State.succeed_vec, State.vec_setVec_self, ← hbytes]
  exact hk k

end Sys2Proof.Machine
end

section
/-! The YuSCipher orchestrator (44_cipher.md): what CONFIG, INIT and ROUND leave (R235, R240, R243), and ROUND as SBOXL, LIN
and ARK (R316). -/

namespace Sys2Proof.Machine

/-! ## CONFIG and INIT -/

section
variable {s : State} {vd vs1 vs2 : VReg} {lvl m6 : Nat}

theorem exec_config (hq : ModulusOk s.prime) (hlvl : lvl ≤ 1) (hm : m6 ≤ 36) :
    exec (.config lvl m6) s =
      .next (s.loadConfig s.prime (roundsOfLevel lvl) (BitVec.ofNat 6 m6)).succeed :=
  exec_of_bodyOf_ok (configBody_eq_ok.mpr ⟨hq, Nat.not_lt.mpr hlvl, Nat.not_lt.mpr hm, rfl⟩)

theorem exec_init (hdev : s.dev ≠ .noparam) (hk : AllCanonical (s.vec vs1) s.p) (hlen : s.nonceLen.toNat ≤ 64) :
    exec (.init vs1 36) s = .next (s.loadKey (s.vec vs1) s.nonceLen.toNat).succeed :=
  exec_of_bodyOf_ok (initBody_eq_ok.mpr ⟨hdev, rfl, hk, Nat.not_lt.mpr hlen, rfl⟩)

theorem exec_round (hdev : s.dev ≠ .noparam) (h1 : AllCanonical (s.vec vs1) s.p) (h2 : AllCanonical (s.vec vs2) s.p) :
    exec (.round vd vs1 vs2 36) s =
      .next (s.setVec vd (roundTransform params s.p (s.vec vs1) (s.vec vs2))).succeed :=
  exec_of_bodyOf_ok (roundBody_eq_ok.mpr ⟨hdev, rfl, ⟨h1, h2⟩, rfl⟩)

end

theorem toNat_roundsOfLevel (lvl : Nat) : (roundsOfLevel lvl).toNat = if lvl = 0 then 5 else 6 :=
  apply_ite BitVec.toNat _ _ _

/-- Settles O51: the three checks pass, and M6 up to 36 fits the six bits of TRUNC. -/
theorem configLoadsTheConfiguration : Obligations.ConfigLoadsTheConfiguration := by
  intro s lvl m6 hmod hlarge hlvl hm
  have htrunc : (BitVec.ofNat 6 m6).toNat = m6 := Nat.mod_eq_of_lt (by omega)
  exact ⟨_, exec_config ⟨hmod, hlarge⟩ hlvl hm, rfl, rfl, rfl, toNat_roundsOfLevel lvl, htrunc,
    ⟨rfl, rfl, rfl, rfl, rfl, rfl⟩, ⟨rfl, rfl, rfl⟩, ⟨rfl, rfl, rfl⟩, ⟨rfl, fun _ => rfl⟩, fun _ => rfl, fun _ => rfl⟩

theorem val_nl_loadKey (s : State) (k : Vec) {len : Nat} (hlen : len ≤ 64) : (s.loadKey k len).nl.val = len :=
  Nat.mod_eq_of_lt (Nat.lt_succ_of_le hlen)

/-- The nonce after INIT is the head of NONCE_BUF: what NONCE held beyond it is not part of the nonce (R240). -/
theorem nonceBytes_loadKey (s : State) (k : Vec) {len : Nat} (hlen : len ≤ 64) :
    (s.loadKey k len).nonceBytes = s.nonceBuf.toList.take len := by
  rw [State.nonceBytes, val_nl_loadKey s k hlen, State.loadKey_nonce]
  refine List.ext_getElem (by simp) fun b hb _ => ?_
  have hb' : b < len := by simp at hb; omega
  rw [List.getElem_take, List.getElem_take, Vector.getElem_toList, Vector.getElem_toList, getElem_tabulate, if_pos hb']
  rfl

/-- Settles O52: NONCE_LEN up to 64 fits NL, so the nonce has that many bytes. -/
theorem initLoadsKeyAndNonce : Obligations.InitLoadsKeyAndNonce := by
  intro s vs1 hdev hk hlen
  exact ⟨_, exec_init hdev hk hlen, rfl, rfl, fun _ => rfl, val_nl_loadKey s (s.vec vs1) hlen,
    nonceBytes_loadKey s (s.vec vs1) hlen, rfl, rfl, rfl, ⟨rfl, rfl, rfl, rfl, rfl, rfl⟩, ⟨rfl, rfl, rfl⟩,
    ⟨rfl, fun _ => rfl⟩, fun _ => rfl, fun _ => rfl⟩

/-! ## ROUND -/

/-- Element r of the round transform (R242). -/
theorem toNat_roundTransform {p : Elem} (hp : 0 < p.toNat) (c : Params) (a rk : Vec) (r : Fin 36) :
    (roundTransform c p a rk)[r].toNat = (rowSum c (sboxLayer p a) r % p.toNat + rk[r].toNat) % p.toNat := by
  rw [roundTransform, toNat_addVec hp, toNat_linearLayer hp]

/-- Settles O53: a canonical source makes p positive. -/
theorem roundWritesTheRoundTransform : Obligations.RoundWritesTheRoundTransform := by
  intro s vd vs1 vs2 hdev hc
  refine ⟨_, exec_round hdev (fun k => (hc k).1) (fun k => (hc k).2), rfl, vectorFrame_setVec s vd _, fun r => ?_⟩
  rw [State.succeed_vec, State.vec_setVec_self, toNat_roundTransform (Nat.zero_lt_of_lt (hc 0).1), rowSum_eq_sum]
  rfl

/-- What is known of the state a command leaves that only writes V[vd]. -/
theorem exists_next_of_setVec {i : Instr} {s : State} {vd : VReg} {e : Vec}
    (h : exec i s = .next (s.setVec vd e).succeed) :
    ∃ t, exec i s = .next t ∧ t.err = .ok ∧ t.dev = s.dev ∧ t.p = s.p ∧ t.vec vd = e ∧ ∀ r, r ≠ vd → t.vec r = s.vec r :=
  ⟨_, h, rfl, rfl, rfl, State.vec_setVec_self s vd e, fun _ hr => State.vec_setVec_of_ne s vd e hr⟩

/-- Settles O54: what SBOXL and LIN leave in the scratch register is canonical, and the round key is still in its
register when ARK reads it. -/
theorem roundIsSboxlThenLinThenArk : Obligations.RoundIsSboxlThenLinThenArk := by
  intro s vd vs1 vs2 vt hdev hvt hc
  have h1 : AllCanonical (s.vec vs1) s.p := fun k => (hc k).1
  have h2 : AllCanonical (s.vec vs2) s.p := fun k => (hc k).2
  have hpos : 0 < s.p.toNat := Nat.zero_lt_of_lt (h1 0)
  obtain ⟨t, hround, herr, -, -, ht, -⟩ := exists_next_of_setVec (exec_round (vd := vd) hdev h1 h2)
  obtain ⟨t1, hsboxl, herr1, hdev1, hp1, ht1, hrest1⟩ := exists_next_of_setVec (exec_sboxl (vd := vt) hdev h1)
  have hcanon1 : AllCanonical (t1.vec vt) t1.p := by
    rw [ht1, hp1]; exact canonical_sboxLayer hpos h1
  obtain ⟨t2, hlin, herr2, hdev2, hp2, ht2, hrest2⟩ :=
    exists_next_of_setVec (exec_lin (vd := vt) (hdev1 ▸ hdev) hcanon1)
  have hcanon2 : AllCanonical (t2.vec vt) t2.p := by
    rw [ht2, hp2]; exact canonical_linearLayer (hp1 ▸ hpos) _ _
  have hkey : t2.vec vs2 = s.vec vs2 := (hrest2 vs2 hvt.symm).trans (hrest1 vs2 hvt.symm)
  have hcanon3 : AllCanonical (t2.vec vs2) t2.p := by
    rw [hkey, hp2, hp1]; exact h2
  obtain ⟨t3, hark, herr3, -, -, ht3, -⟩ :=
    exists_next_of_setVec (exec_ark (vd := vd) (by rwa [hdev2, hdev1]) hcanon2 hcanon3)
  refine ⟨t, t1, t2, t3, hround, hsboxl, hlin, hark, herr, herr1, herr2, herr3, ?_⟩
  rw [ht3, ht2, ht1, hkey, hp2, hp1, ht, roundTransform]

end Sys2Proof.Machine
end

section
/-! The block function (R245, R246) and the keystream sequencer (R49): the sequencer computes the block function, and the
block function is the rounds of R242 between whitening and the final diffusion. -/

namespace Sys2Proof.Machine

section
variable {c : Params} {s : State} {j : Nat}

/-! ## Round keys -/

theorem roundKey_eq_map (c : Params) (s : State) (r j : Nat) :
    roundKey c s r j = (roundConstant c s.nonceBytes r j s.p).map (mulVec s.p s.key) := by
  unfold roundKey
  cases roundConstant c s.nonceBytes r j s.p <;> rfl

/-! ## The block function -/

theorem blockRounds_succ (n r : Nat) (w : Vec) :
    blockRounds c s j (n + 1) r w =
      (roundKey c s (r + 1) j).bind fun rk => blockRounds c s j n (r + 1) (roundTransform c s.p w rk) := by
  rw [blockRounds]
  cases roundKey c s (r + 1) j <;> rfl

theorem blockState_eq_bind (c : Params) (s : State) (j : Nat) :
    blockState c s j = (roundKey c s 0 j).bind fun rk =>
      (blockRounds c s j s.rounds.toNat 0 (addVec s.p (counterVector s.p j) rk)).map (linearLayer c s.p) := by
  unfold blockState
  cases roundKey c s 0 j with
  | none => rfl
  | some rk =>
    dsimp only [Option.bind_some]
    cases blockRounds c s j s.rounds.toNat 0 (addVec s.p (counterVector s.p j) rk) <;> rfl

/-- Given the round keys, the rounds follow any sequence of states that takes a round transform at each step. -/
theorem blockRounds_eq_some {st rk : Nat → Vec} {n r : Nat}
    (hkey : ∀ i, i ≤ r + n → roundKey c s i j = some (rk i))
    (hst : ∀ i, i < r + n → st (i + 1) = roundTransform c s.p (st i) (rk (i + 1))) :
    blockRounds c s j n r (st r) = some (st (r + n)) := by
  induction n generalizing r with
  | zero => rfl
  | succ n ih =>
    rw [blockRounds_succ, hkey (r + 1) (by omega), Option.bind_some, ← hst r (by omega),
      ih (fun i hi => hkey i (by omega)) (fun i hi => hst i (by omega)), Nat.add_right_comm, Nat.add_assoc]

/-- The rounds end only when each of them has a key. -/
theorem exists_roundKey_of_blockRounds {n r : Nat} {w w' : Vec} (h : blockRounds c s j n r w = some w') :
    ∀ i, r < i → i ≤ r + n → ∃ rk, roundKey c s i j = some rk := by
  induction n generalizing r w with
  | zero => intro i hlo hhi; omega
  | succ n ih =>
    rw [blockRounds_succ, Option.bind_eq_some_iff] at h
    obtain ⟨rk, hrk, hrest⟩ := h
    intro i hlo hhi
    rcases Nat.lt_or_ge (r + 1) i with hi | hi
    · exact ih hrest i hi (by omega)
    · obtain rfl : i = r + 1 := by omega
      exact ⟨rk, hrk⟩

/-- The state after whitening and r rounds, given the round keys (R246). -/
def stateAfterRounds (c : Params) (p : Elem) (j : Nat) (rk : Nat → Vec) : Nat → Vec
  | 0 => addVec p (counterVector p j) (rk 0)
  | r + 1 => roundTransform c p (stateAfterRounds c p j rk r) (rk (r + 1))

/-- Given the round keys, the block function follows any sequence of states of R246. -/
theorem blockState_eq_some {st rk : Nat → Vec} (hkey : ∀ r, r ≤ s.rounds.toNat → roundKey c s r j = some (rk r))
    (h0 : st 0 = addVec s.p (counterVector s.p j) (rk 0))
    (hst : ∀ r, r < s.rounds.toNat → st (r + 1) = roundTransform c s.p (st r) (rk (r + 1))) :
    blockState c s j = some (linearLayer c s.p (st s.rounds.toNat)) := by
  have hrounds : blockRounds c s j s.rounds.toNat 0 (st 0) = some (st (0 + s.rounds.toNat)) :=
    blockRounds_eq_some (by rwa [Nat.zero_add]) (by rwa [Nat.zero_add])
  rw [blockState_eq_bind, hkey 0 (Nat.zero_le _), Option.bind_some, ← h0, hrounds, Option.map_some, Nat.zero_add]

theorem blockState_of_roundKeys {rk : Nat → Vec} (hkey : ∀ r, r ≤ s.rounds.toNat → roundKey c s r j = some (rk r)) :
    blockState c s j = some (linearLayer c s.p (stateAfterRounds c s.p j rk s.rounds.toNat)) :=
  blockState_eq_some hkey rfl fun _ _ => rfl

/-- The block function has a value only when each of the rounds 0 to R has a key. -/
theorem exists_roundKey_of_blockState {w : Vec} (h : blockState c s j = some w) :
    ∃ rk : Nat → Vec, ∀ r, r ≤ s.rounds.toNat → roundKey c s r j = some (rk r) := by
  rw [blockState_eq_bind, Option.bind_eq_some_iff] at h
  obtain ⟨rk0, hrk0, hrest⟩ := h
  obtain ⟨w', hrounds, -⟩ := Option.map_eq_some_iff.mp hrest
  have hexists (r : Nat) (hr : r ≤ s.rounds.toNat) : ∃ rk, roundKey c s r j = some rk := by
    rcases Nat.eq_zero_or_pos r with rfl | hpos
    · exact ⟨rk0, hrk0⟩
    · exact exists_roundKey_of_blockRounds hrounds r hpos (by omega)
  choose! rk hrk using hexists
  exact ⟨rk, hrk⟩

/-! ## The sequencer -/

theorem run_succ (n : Nat) (q : Sequencer) :
    Sequencer.run c s (n + 1) q = (q.advance c s).bind (Sequencer.run c s n) := by
  rw [Sequencer.run]
  cases q.advance c s <;> rfl

theorem advance_whiten (r : Nat) (w : Vec) :
    Sequencer.advance c s ⟨j, r, .whiten, w⟩ =
      (roundKey c s 0 j).map fun rk => ⟨j, r, phaseAfter 0 s.rounds.toNat, addVec s.p w rk⟩ := by
  unfold Sequencer.advance
  cases roundKey c s 0 j <;> rfl

theorem advance_round (r : Nat) (w : Vec) :
    Sequencer.advance c s ⟨j, r, .round, w⟩ = (roundKey c s (r + 1) j).map fun rk =>
      ⟨j, r + 1, phaseAfter (r + 1) s.rounds.toNat, roundTransform c s.p w rk⟩ := by
  unfold Sequencer.advance
  cases roundKey c s (r + 1) j <;> rfl

theorem advance_finalDiffusion (r : Nat) (w : Vec) :
    Sequencer.advance c s ⟨j, r, .finalDiffusion, w⟩ = some ⟨j, r, .truncate, linearLayer c s.p w⟩ := rfl

/-- From the key of round r on, the sequencer makes a move for each round that is left and one for the final diffusion. -/
theorem run_after_round {n r : Nat} (hr : r + n = s.rounds.toNat) (w : Vec) :
    Sequencer.run c s (n + 1) ⟨j, r, phaseAfter r s.rounds.toNat, w⟩ =
      (blockRounds c s j n r w).map fun w' => ⟨j, s.rounds.toNat, .truncate, linearLayer c s.p w'⟩ := by
  induction n generalizing r w with
  | zero =>
    obtain rfl : r = s.rounds.toNat := hr
    rw [phaseAfter, if_neg (Nat.lt_irrefl _), run_succ, advance_finalDiffusion]
    rfl
  | succ n ih =>
    rw [phaseAfter, if_pos (by omega), run_succ, advance_round, blockRounds_succ]
    cases roundKey c s (r + 1) j with
    | none => rfl
    | some rk => exact ih (by omega) _

/-- The sequencer run to its end holds the state of the block function (R49, R246). -/
theorem runBlock_eq_map (c : Params) (s : State) (j : Nat) :
    runBlock c s j = (blockState c s j).map fun w => ⟨j, s.rounds.toNat, .truncate, w⟩ := by
  rw [runBlock, Sequencer.start, run_succ, advance_whiten, blockState_eq_bind]
  cases roundKey c s 0 j with
  | none => rfl
  | some rk =>
    rw [Option.map_some, Option.bind_some, Option.bind_some, run_after_round (Nat.zero_add _), Option.map_map]
    rfl

/-! ## The obligation -/

theorem blockState_eq_some_iff {w : Vec} : blockState c s j = some w ↔
    ∃ st rk : Nat → Vec, (∀ r, r ≤ s.rounds.toNat → roundKey c s r j = some (rk r)) ∧
      st 0 = addVec s.p (counterVector s.p j) (rk 0) ∧
      (∀ r, r < s.rounds.toNat → st (r + 1) = roundTransform c s.p (st r) (rk (r + 1))) ∧
      w = linearLayer c s.p (st s.rounds.toNat) := by
  constructor
  · intro h
    obtain ⟨rk, hkey⟩ := exists_roundKey_of_blockState h
    exact ⟨stateAfterRounds c s.p j rk, rk, hkey, rfl, fun _ _ => rfl,
      Option.some.inj (h.symm.trans (blockState_of_roundKeys hkey))⟩
  · rintro ⟨st, rk, hkey, h0, hst, rfl⟩
    exact blockState_eq_some hkey h0 hst

end

/-- Settles O55: the sequencer and the block function take the same moves, and a round key is KEY times the round
constant. -/
theorem sequencerComputesTheBlockFunction : Obligations.SequencerComputesTheBlockFunction := by
  intro c s j
  refine ⟨runBlock_eq_map c s j, fun w => blockState_eq_some_iff, fun hp => toNat_counterVector hp j, fun r => ?_⟩
  rw [roundKey_eq_map]
  refine ⟨Option.map_eq_none_iff, fun hp rk rc hrk hrc k => ?_⟩
  rw [hrc, Option.map_some, Option.some.injEq] at hrk
  rw [← hrk, toNat_mulVec hp]

end Sys2Proof.Machine
end

section
/-! KS (R244 to R250): the blocks it runs, their keystream in OUT, and that a block depends on the configuration, KEY and the
nonce only. -/

namespace Sys2Proof.Machine

/-! ## The blocks that are run (R247) -/

section
variable {c : Params} {s : State} {n j : Nat} {qs : List Sequencer}

theorem runBlocks_succ (n j : Nat) :
    runBlocks c s (n + 1) j = (runBlock c s j).bind fun q => (runBlocks c s n (j + 1)).map (q :: ·) := by
  rw [runBlocks]
  cases runBlock c s j with
  | none => rfl
  | some q =>
    dsimp only [Option.bind_some]
    cases runBlocks c s n (j + 1) <;> rfl

/-- Blocks that all end are run together. -/
theorem exists_runBlocks (h : ∀ j, ∃ q, runBlock c s j = some q) (n j : Nat) : ∃ qs, runBlocks c s n j = some qs := by
  induction n generalizing j with
  | zero => exact ⟨[], rfl⟩
  | succ n ih =>
    obtain ⟨q, hq⟩ := h j
    obtain ⟨qs, hqs⟩ := ih (j + 1)
    exact ⟨q :: qs, by rw [runBlocks_succ, hq, hqs]; rfl⟩

/-- Block i of those run from j on is block j + i. -/
theorem getElem?_runBlocks (h : runBlocks c s n j = some qs) {i : Nat} (hi : i < n) :
    qs[i]? = runBlock c s (j + i) := by
  induction n generalizing i j qs with
  | zero => omega
  | succ n ih =>
    rw [runBlocks_succ, Option.bind_eq_some_iff] at h
    obtain ⟨q, hq, hrest⟩ := h
    obtain ⟨qs', hqs', rfl⟩ := Option.map_eq_some_iff.mp hrest
    cases i with
    | zero => exact hq.symm
    | succ i => rw [List.getElem?_cons_succ, ih hqs' (by omega), Nat.add_right_comm, Nat.add_assoc]

/-! ## The layout of the keystream (R249) -/

/-- Element t of what block j emits stands at j * (36 - m) + t. -/
theorem getElem?_keystream {m t : Nat} (qs : List Sequencer) (j : Nat) (ht : t < 36 - m) :
    (keystream m qs)[j * (36 - m) + t]? = qs[j]?.bind fun q => q.work[m + t]? := by
  induction qs generalizing j with
  | nil => rfl
  | cons q qs ih =>
    rw [keystream, List.flatMap_cons, ← keystream]
    cases j with
    | zero =>
      rw [Nat.zero_mul, Nat.zero_add, List.getElem?_append_left (by rwa [length_emit]), Sequencer.emit,
        List.getElem?_drop, Vector.getElem?_toList]
      rfl
    | succ j =>
      have hskip : (j + 1) * (36 - m) + t - (36 - m) = j * (36 - m) + t := by rw [Nat.succ_mul]; omega
      rw [List.getElem?_append_right (by rw [length_emit, Nat.succ_mul]; omega), length_emit, hskip, ih j]
      rfl

theorem keystream_prefix {m : Nat} {qs' : List Sequencer} (h : qs' <+: qs) : keystream m qs' <+: keystream m qs :=
  h.flatMap _

end

/-! ## What is stored in OUT and OUT_LEN -/

section
variable {s : State} {buf : List Elem} (hbuf : buf.length ≤ Config.OUT_DEPTH)
include hbuf

theorem toNat_outLen_storeKeystream (s : State) (q : Option Sequencer) :
    (s.storeKeystream buf q).outLen.toNat = buf.length :=
  Nat.mod_eq_of_lt (hbuf.trans_lt (by decide))

theorem read_out_storeKeystream (hout : s.out.wf) (q : Option Sequencer) (n : Nat) :
    (s.storeKeystream buf q).out.read n = buf.getD n (s.out.read n) := by
  rw [State.storeKeystream_out, Memory.read_writeList hout buf (by rwa [Nat.zero_add]), List.getD_eq_getElem?_getD,
    List.getD_getElem?]
  simp

end

/-! ## KS under SHAKE128, which never fails (R275, log entry 7) -/

theorem exists_roundKey_params (s : State) (r j : Nat) : ∃ rk, roundKey params s r j = some rk := by
  obtain ⟨h, hout, -⟩ := exists_xof_params (hashInput params s.nonceBytes r j) 288
  rw [roundKey_eq_map, roundConstant_eq_map, hout]
  exact ⟨_, rfl⟩

theorem exists_blockState_params (s : State) (j : Nat) : ∃ w, blockState params s j = some w := by
  choose rk hrk using fun r => exists_roundKey_params s r j
  exact ⟨_, blockState_of_roundKeys fun r _ => hrk r⟩

theorem exists_runBlock_params (s : State) (j : Nat) : ∃ q, runBlock params s j = some q := by
  obtain ⟨w, hw⟩ := exists_blockState_params s j
  exact ⟨_, by rw [runBlock_eq_map, hw, Option.map_some]⟩

/-- A KS that passes its checks completes, with the keystream of as many blocks as asked for. -/
theorem exec_ks {s : State} {xa : XReg} (hdev : s.dev = .ready) (hcount : InRange32 (s.scalar xa))
    (hfits : keystreamLength (s.scalar xa).toNat s.trunc.toNat ≤ Config.OUT_DEPTH) :
    ∃ qs, runBlocks params s (s.scalar xa).toNat 0 = some qs ∧
      (keystream s.trunc.toNat qs).length = keystreamLength (s.scalar xa).toNat s.trunc.toNat ∧
      exec (.ks xa) s = .next (s.storeKeystream (keystream s.trunc.toNat qs) qs.getLast?).succeed := by
  obtain ⟨qs, hqs⟩ := exists_runBlocks (exists_runBlock_params s) (s.scalar xa).toNat 0
  refine ⟨qs, hqs, ?_, exec_of_bodyOf_ok (ksBody_eq_ok.mpr ⟨hdev, hcount, Nat.not_lt.mpr hfits, qs, hqs, rfl⟩)⟩
  rw [length_keystream, length_runBlocks hqs]

/-- Settles O56: block j of those run holds the state of the block function, and the layout puts its elements from m on
at j * (36 - m). -/
theorem ksWritesTheKeystream : Obligations.KsWritesTheKeystream := by
  intro s xa hs hdev hcount hfits
  obtain ⟨qs, hqs, hlen, hexec⟩ := exec_ks hdev hcount hfits
  have hbuf : (keystream s.trunc.toNat qs).length ≤ Config.OUT_DEPTH := hlen.trans_le hfits
  refine ⟨_, hexec, rfl, (toNat_outLen_storeKeystream hbuf s qs.getLast?).trans hlen, ?_, ?_, rfl, rfl, rfl, rfl, rfl,
    ⟨rfl, rfl, rfl⟩, ⟨rfl, rfl, rfl, rfl⟩, ⟨rfl, rfl, rfl⟩, fun _ => rfl, fun _ => rfl⟩
  · intro j hj
    obtain ⟨w, hw⟩ := exists_blockState_params s j
    have hq : qs[j]? = some ⟨j, s.rounds.toNat, .truncate, w⟩ := by
      rw [getElem?_runBlocks hqs hj, Nat.zero_add, runBlock_eq_map, hw, Option.map_some]
    refine ⟨w, hw, fun k hk => ?_⟩
    rw [State.succeed_out, read_out_storeKeystream hbuf hs.out, List.getD_eq_getElem?_getD,
      getElem?_keystream qs j (by omega), hq, Option.bind_some, Nat.add_sub_cancel' hk]
    simp
  · intro n hn
    rw [State.succeed_out, read_out_storeKeystream hbuf hs.out]
    exact List.getD_eq_default _ _ (hlen.trans_le hn)

/-- Settles O57: in both cases the keystream is empty. -/
theorem ksWithoutOutput : Obligations.KsWithoutOutput := by
  intro s xa hdev hcount hnone
  have hempty : keystreamLength (s.scalar xa).toNat s.trunc.toNat = 0 := by
    rw [keystreamLength]
    rcases hnone with h | h
    · rw [h, Nat.zero_mul]
    · rw [h, Nat.sub_self, Nat.mul_zero]
  obtain ⟨qs, -, hlen, hexec⟩ := exec_ks hdev hcount (hempty.trans_le (Nat.zero_le _))
  rw [List.eq_nil_of_length_eq_zero (hlen.trans hempty)] at hexec
  exact ⟨_, hexec, rfl, rfl, fun _ => rfl⟩

/-! ## What a block depends on (R250) -/

/-- The second state has the configuration, the key and the nonce of the first. -/
structure SameBlockInputs (s s' : State) : Prop where
  p : s'.p = s.p
  rounds : s'.rounds = s.rounds
  key : s'.key = s.key
  nonce : s'.nonceBytes = s.nonceBytes

section
variable {s s' : State} (h : SameBlockInputs s s') (c : Params)
include h

theorem SameBlockInputs.roundKey (r j : Nat) : roundKey c s' r j = roundKey c s r j := by
  rw [roundKey_eq_map, roundKey_eq_map, h.p, h.key, h.nonce]

theorem SameBlockInputs.blockRounds (j n r : Nat) (w : Vec) : blockRounds c s' j n r w = blockRounds c s j n r w := by
  induction n generalizing r w with
  | zero => rfl
  | succ n ih => simp only [blockRounds_succ, h.roundKey, h.p, ih]

theorem SameBlockInputs.blockState (j : Nat) : blockState c s' j = blockState c s j := by
  simp only [blockState_eq_bind, h.roundKey, h.blockRounds, h.p, h.rounds]

theorem SameBlockInputs.runBlock (j : Nat) : runBlock c s' j = runBlock c s j := by
  rw [runBlock_eq_map, runBlock_eq_map, h.blockState, h.rounds]

/-- Fewer blocks are the first of more blocks. -/
theorem SameBlockInputs.runBlocks_prefix {n n' j : Nat} {qs qs' : List Sequencer} (hn : n' ≤ n)
    (hqs : runBlocks c s n j = some qs) (hqs' : runBlocks c s' n' j = some qs') : qs' <+: qs := by
  refine List.prefix_iff_getElem?.mpr fun i hi => ?_
  have hi' : i < n' := by rwa [← length_runBlocks hqs']
  rw [getElem?_runBlocks hqs (hi'.trans_le hn), ← h.runBlock, ← getElem?_runBlocks hqs' hi',
    List.getElem?_eq_getElem hi]

end

/-- A command that ended with ERR = 0 had a successful body (R280). -/
theorem bodyOf_eq_ok_of_exec {i : Instr} {s t : State} (h : exec i s = .next t) (herr : t.err = .ok) :
    ∃ u, bodyOf i s = .ok u ∧ t = u.succeed := by
  rcases exec_cases h with ⟨e, -, hne, rfl⟩ | hu
  · exact absurd herr hne
  · exact hu

/-- OUT and OUT_LEN after a KS that ended with ERR = 0 (R248). -/
theorem exists_keystream_of_exec_ks {s t : State} {xa : XReg} (hs : Inv s) (h : exec (.ks xa) s = .next t)
    (herr : t.err = .ok) : ∃ qs, runBlocks params s (s.scalar xa).toNat 0 = some qs ∧
      t.outLen.toNat = (keystream s.trunc.toNat qs).length ∧
      ∀ n, t.out.read n = (keystream s.trunc.toNat qs).getD n (s.out.read n) := by
  obtain ⟨u, hu, rfl⟩ := bodyOf_eq_ok_of_exec h herr
  obtain ⟨-, -, hfits, qs, hqs, rfl⟩ := ksBody_eq_ok.mp hu
  have hbuf : (keystream s.trunc.toNat qs).length ≤ Config.OUT_DEPTH := by
    rw [length_keystream, length_runBlocks hqs]
    exact Nat.not_lt.mp hfits
  exact ⟨qs, hqs, toNat_outLen_storeKeystream hbuf s qs.getLast?, read_out_storeKeystream hbuf hs.out qs.getLast?⟩

/-- Settles O58: the blocks of the smaller count are the first of the larger, so the keystream of the one begins that of
the other. -/
theorem keystreamBlocksAreIndependent : Obligations.KeystreamBlocksAreIndependent := by
  intro s s' t t' xa xa' hs hs' hp hrounds htrunc hkey hnonce hle h h' herr herr' n hn
  obtain ⟨qs, hqs, -, hread⟩ := exists_keystream_of_exec_ks hs h herr
  obtain ⟨qs', hqs', hlen', hread'⟩ := exists_keystream_of_exec_ks hs' h' herr'
  have hsame : SameBlockInputs s s' := ⟨hp, hrounds, hkey, hnonce⟩
  have hprefix : keystream s'.trunc.toNat qs' <+: keystream s.trunc.toNat qs :=
    htrunc ▸ keystream_prefix (hsame.runBlocks_prefix params hle hqs hqs')
  rw [hlen'] at hn
  rw [hread', hread, List.getD_eq_getElem _ _ hn, hprefix.getElem hn, List.getD_eq_getElem]

end Sys2Proof.Machine
end

section
/-! Errors (60_exceptions.md): with which code a command ends and when (R271 to R276, R279), the hash calls that fail (R247,
R275), and what a completion step writes that ends with an error (R277, R280). No step stops the machine (R270). -/

namespace Sys2Proof.Machine

open Sys2Proof.Claims

/-! ## The code a command ends with -/

/-- The codes of a completion are those of the bodies (R280). -/
theorem err_eq_iff_bodyOf_eq_error {i : Instr} {s t : State} {e : ErrCode} (h : exec i s = .next t) (he : e ≠ .ok) :
    t.err = e ↔ bodyOf i s = .error e := by
  rcases exec_cases h with ⟨e', hb, -, rfl⟩ | ⟨u, hb, rfl⟩
  · rw [hb, Except.error.injEq]
    rfl
  · rw [hb]
    exact iff_of_false he.symm nofun

theorem exec_of_bodyOf_error {i : Instr} {s : State} {e : ErrCode} (h : bodyOf i s = .error e) :
    exec i s = .next { s with err := e } := by
  rw [exec_eq_settle, h, settle_error]
  rfl

/-! ## The operand checks of R273, as the obligations write them -/

theorem nonCanonical_iff {a : Vec} {p : Elem} : NonCanonical a p ↔ ¬ AllCanonical a p := by
  simp only [NonCanonical, AllCanonical, Canonical, not_forall, Nat.not_lt]

theorem nonCanonical_or_iff {a b : Vec} {p : Elem} :
    NonCanonical a p ∨ NonCanonical b p ↔ ¬ (AllCanonical a p ∧ AllCanonical b p) := by
  rw [nonCanonical_iff, nonCanonical_iff, not_and_or]

theorem exists_triple_iff {a : Vec} {p : Elem} :
    (∃ k : Fin 36, k.val < 3 ∧ p.toNat ≤ a[k].toNat) ↔ ¬ TripleCanonical a p := by
  rw [← not_iff_not, not_not]
  constructor
  · intro h
    exact tripleCanonical_of_forall fun k hk => Nat.lt_of_not_le fun hle => h ⟨k, hk, hle⟩
  · rintro ⟨h0, h1, h2⟩ ⟨k, hk, hle⟩
    obtain rfl | rfl | rfl : k = 0 ∨ k = 1 ∨ k = 2 := by omega
    · exact Nat.not_lt.mpr hle h0
    · exact Nat.not_lt.mpr hle h1
    · exact Nat.not_lt.mpr hle h2

/-! ## When a command ends with which code (R272 to R276, R279) -/

/-- The condition under which the command i ends with each code in the state s. No command ends with PrimitiveFailure
under SHAKE128 (R275), and none raises IllegalCommand: a word that decodes is legal (R277). -/
def Raises (i : Instr) (s : State) : ErrCode → Prop
  | .ok => False
  | .invalidParameter => ∃ lvl m6, i = .config lvl m6 ∧
      (s.prime.toNat % 3 ≠ 2 ∨ s.prime.toNat ≤ 65536 ∨ lvl > 1 ∨ m6 > 36)
  | .invalidInput => InputError s i ∧ s.dev ≠ .noparam ∧ (NeedsKey i → s.dev = .ready)
  | .notInitialized => NeedsKey i ∧ s.dev = .unconfigured
  | .primitiveFailure => False
  | .notConstructed => NeedsModulus i ∧ s.dev = .noparam
  | .illegalCommand => False

section
variable {i : Instr} {s : State} {e : ErrCode} {P : Prop}

/-- The commands that need the modulus and no key check STATE, then their operands. -/
theorem eq_error_iff_raises_of_needsModulus (hmod : NeedsModulus i) (hkey : ¬ NeedsKey i)
    (hbody : bodyOf i s = .error e ↔
      s.dev = .noparam ∧ e = .notConstructed ∨ ¬ s.dev = .noparam ∧ P ∧ e = .invalidInput)
    (hinput : InputError s i ↔ P) : bodyOf i s = .error e ↔ Raises i s e := by
  have hconfig (lvl m6 : Nat) : i ≠ .config lvl m6 := by rintro rfl; exact hmod
  rw [hbody, ← hinput]
  cases e <;> simp [Raises, hmod, hkey, hconfig, and_comm]

/-- RC and KS check STATE twice, then their operands, and their hash calls do not fail. -/
theorem eq_error_iff_raises_of_needsKey (hkey : NeedsKey i)
    (hbody : bodyOf i s = .error e ↔
      s.dev = .noparam ∧ e = .notConstructed ∨ s.dev = .unconfigured ∧ e = .notInitialized ∨
      s.dev = .ready ∧ P ∧ e = .invalidInput)
    (hinput : InputError s i ↔ P) : bodyOf i s = .error e ↔ Raises i s e := by
  have hconfig (lvl m6 : Nat) : i ≠ .config lvl m6 := by rintro rfl; exact hkey
  have hmod : NeedsModulus i := by cases i <;> trivial
  rw [hbody, ← hinput]
  cases e with
  | invalidInput => cases hd : s.dev <;> simp [Raises, hkey, hd]
  | _ => simp [Raises, hkey, hmod, hconfig]

theorem raises_config {lvl m6 : Nat} : Raises (.config lvl m6) s e ↔
    (¬ ModulusOk s.prime ∨ lvl > 1 ∨ m6 > 36) ∧ e = .invalidParameter := by
  cases e with
  | invalidParameter =>
    simp only [Raises, Instr.config.injEq, ModulusOk]
    constructor
    · rintro ⟨_, _, ⟨rfl, rfl⟩, h⟩
      exact ⟨by omega, trivial⟩
    · rintro ⟨h, -⟩
      exact ⟨lvl, m6, ⟨rfl, rfl⟩, by omega⟩
  | _ => simp [Raises, InputError, NeedsKey, NeedsModulus]

/-- LBN and DBN check nothing (R175, R176). -/
theorem not_raises_lbn {xd : XReg} : ¬ Raises (.lbn xd) s e := by
  cases e <;> simp [Raises, InputError, NeedsKey, NeedsModulus]

theorem not_raises_dbn {xd : XReg} : ¬ Raises (.dbn xd) s e := by
  cases e <;> simp [Raises, InputError, NeedsKey, NeedsModulus]

end

/-- SHAKE128 gives every round constant (R275, log entry 7). -/
theorem roundConstant_params_ne_none (nonce : List Byte) (i j : Nat) (p : Elem) :
    roundConstant params nonce i j p ≠ none := by
  obtain ⟨h, hout, -⟩ := exists_xof_params (hashInput params nonce i j) 288
  rw [roundConstant_eq_map, hout]
  exact Option.some_ne_none _

theorem runBlocks_params_ne_none (s : State) (n j : Nat) : runBlocks params s n j ≠ none := by
  obtain ⟨qs, hqs⟩ := exists_runBlocks (exists_runBlock_params s) n j
  rw [hqs]
  exact Option.some_ne_none _

/-- Command by command, the code its body ends with. -/
theorem bodyOf_eq_error_iff {i : Instr} {s : State} {e : ErrCode} : bodyOf i s = .error e ↔ Raises i s e := by
  cases i with
  | sbox =>
    exact eq_error_iff_raises_of_needsModulus trivial id sboxBody_eq_error (or_congr_right exists_triple_iff)
  | sboxl =>
    exact eq_error_iff_raises_of_needsModulus trivial id sboxlBody_eq_error (or_congr_right nonCanonical_iff)
  | isperm =>
    exact eq_error_iff_raises_of_needsModulus trivial id (ispermBody_eq_error.trans (by simp [InputError])) Iff.rfl
  | diffu =>
    exact eq_error_iff_raises_of_needsModulus trivial id (diffuBody_eq_error.trans (by simp [InputError])) Iff.rfl
  | lin =>
    exact eq_error_iff_raises_of_needsModulus trivial id linBody_eq_error (or_congr_right nonCanonical_iff)
  | lbn => exact iff_of_false lbnBody_ne_error not_raises_lbn
  | dbn => exact iff_of_false dbnBody_ne_error not_raises_dbn
  | rc vd xa xb =>
    refine eq_error_iff_raises_of_needsKey (P := ¬ (InRange32 (s.scalar xa) ∧ InRange32 (s.scalar xb))) trivial ?_ ?_
    · simp only [bodyOf, rcBody_eq_error, roundConstant_params_ne_none, false_and, and_false, or_false]
    · simp only [InputError, InRange32, not_and_or, Nat.not_lt]
  | rkey =>
    exact eq_error_iff_raises_of_needsModulus trivial id rkeyBody_eq_error (or_congr_right nonCanonical_or_iff)
  | ark =>
    exact eq_error_iff_raises_of_needsModulus trivial id arkBody_eq_error (or_congr_right nonCanonical_or_iff)
  | config => exact configBody_eq_error.trans raises_config.symm
  | init =>
    exact eq_error_iff_raises_of_needsModulus trivial id initBody_eq_error
      (or_congr_right (or_congr_left nonCanonical_iff))
  | round =>
    exact eq_error_iff_raises_of_needsModulus trivial id roundBody_eq_error (or_congr_right nonCanonical_or_iff)
  | ks xa =>
    refine eq_error_iff_raises_of_needsKey trivial ?_ (or_congr_left Nat.not_lt.symm)
    simp only [bodyOf, ksBody_eq_error, runBlocks_params_ne_none, false_and, and_false, or_false]
    rfl

theorem err_eq_iff_raises {i : Instr} {s t : State} {e : ErrCode} (h : exec i s = .next t) (he : e ≠ .ok) :
    t.err = e ↔ Raises i s e :=
  (err_eq_iff_bodyOf_eq_error h he).trans bodyOf_eq_error_iff

/-- Settles O28: the first check of every command but CONFIG, LBN and DBN, and of no other. -/
theorem notConstructedExactlyInNoparam : Obligations.NotConstructedExactlyInNoparam := fun _ _ =>
  ⟨fun hi hdev => exec_of_bodyOf_error (bodyOf_eq_error_iff.mpr ⟨hi, hdev⟩), fun _ h => err_eq_iff_raises h nofun⟩

/-- Settles O29: the second check of RC and KS, and of no other command. -/
theorem notInitializedExactlyBeforeInit : Obligations.NotInitializedExactlyBeforeInit := fun _ _ =>
  ⟨fun hi hdev => exec_of_bodyOf_error (bodyOf_eq_error_iff.mpr ⟨hi, hdev⟩), fun _ h => err_eq_iff_raises h nofun⟩

/-- Settles O30: no check but those of CONFIG has this code. -/
theorem invalidParameterExactlyFromConfig : Obligations.InvalidParameterExactlyFromConfig := fun _ _ _ h =>
  err_eq_iff_raises h nofun

/-- Settles O31: the operand checks come after those of STATE, and before anything else can fail. -/
theorem invalidInputExactly : Obligations.InvalidInputExactly := fun _ _ _ h =>
  err_eq_iff_raises h nofun

/-! ## The hash calls that fail (R247, R275) -/

section
variable {c : Params} {s : State} {j : Nat}

theorem roundConstant_eq_none_iff {nonce : List Byte} {i : Nat} {p : Elem} :
    roundConstant c nonce i j p = none ↔ c.xof (hashInput c nonce i j) 288 = none := by
  rw [roundConstant_eq_map, Option.map_eq_none_iff]

theorem roundKey_eq_none_iff {r : Nat} :
    roundKey c s r j = none ↔ c.xof (hashInput c s.nonceBytes r j) 288 = none := by
  rw [roundKey_eq_map, Option.map_eq_none_iff, roundConstant_eq_none_iff]

/-- A block fails when one of its rounds 0 to R has no key. -/
theorem blockState_eq_none_iff : blockState c s j = none ↔ ∃ r, r ≤ s.rounds.toNat ∧ roundKey c s r j = none := by
  rw [← not_iff_not]
  simp only [← ne_eq, Option.ne_none_iff_exists', not_exists, not_and]
  constructor
  · rintro ⟨w, hw⟩
    obtain ⟨rk, hrk⟩ := exists_roundKey_of_blockState hw
    exact fun r hr => ⟨rk r, hrk r hr⟩
  · intro h
    choose! rk hrk using h
    exact ⟨_, blockState_of_roundKeys hrk⟩

theorem runBlock_eq_none_iff : runBlock c s j = none ↔
    ∃ r, r ≤ s.rounds.toNat ∧ c.xof (hashInput c s.nonceBytes r j) 288 = none := by
  simp only [runBlock_eq_map, Option.map_eq_none_iff, blockState_eq_none_iff, roundKey_eq_none_iff]

/-- The blocks run together fail when one of them does. By induction on their number. -/
theorem runBlocks_eq_none_iff {n : Nat} :
    runBlocks c s n j = none ↔ ∃ k, j ≤ k ∧ k < j + n ∧ runBlock c s k = none := by
  induction n generalizing j with
  | zero => exact iff_of_false nofun fun ⟨k, hlo, hhi, _⟩ => by omega
  | succ n ih =>
    rw [runBlocks_succ]
    cases hq : runBlock c s j with
    | none => exact iff_of_true rfl ⟨j, le_rfl, by omega, hq⟩
    | some q =>
      rw [Option.bind_some, Option.map_eq_none_iff, ih]
      refine exists_congr fun k => ?_
      have hne : runBlock c s k = none → k ≠ j := fun hk hkj => by rw [hkj, hq] at hk; cases hk
      constructor
      · rintro ⟨hlo, hhi, hk⟩
        exact ⟨by omega, by omega, hk⟩
      · rintro ⟨hlo, hhi, hk⟩
        exact ⟨by have := hne hk; omega, by omega, hk⟩

end

/-- Settles O32: past its checks a body ends with this code exactly when the hash has failed it, which SHAKE128 does
not. -/
theorem primitiveFailureExactlyWhenTheHashFails : Obligations.PrimitiveFailureExactlyWhenTheHashFails := by
  refine ⟨fun c vd xa xb s => ?_, fun c xa s => ?_, fun s t h => ?_, fun i s t h => ?_⟩
  · simp [rcBody_eq_error, roundConstant_eq_none_iff, and_assoc]
  · simp [ksBody_eq_error, runBlocks_eq_none_iff, runBlock_eq_none_iff, keystreamLength]
  · cases h
    rfl
  · exact mt (err_eq_iff_raises (e := .primitiveFailure) h nofun).mp id

/-! ## The engine's step -/

section
variable {s : State} {ts : List Turn} {w : Word}

theorem engineTurn_of_pend_eq_none (h : s.pend = none) : engineTurn s = .next s := by
  simp only [engineTurn, h]

theorem engineTurn_of_pend_eq_some (h : s.pend = some w) : engineTurn s = complete w s := by
  simp only [engineTurn, h]

/-- However the engine comes to have the turn, its step is the same. -/
theorem step_of_engineNext (h : EngineNext s ts) : step s = engineTurn (s.setTurns ts) := by
  rcases h with h | ⟨h, rfl⟩
  · exact step_engine h
  · rw [step_nil h, s.setTurns_self h]

/-- What a completion with an error leaves, where there is no sequencer state to discard (R280, R311). -/
theorem raise_finish_setTurns (hseq : s.seq = none) (ts : List Turn) (e : ErrCode) :
    ((s.setTurns ts).raise e).finish = { s with turns := ts, pend := none, err := e } := by
  simp only [State.setTurns, State.raise, State.finish, hseq]

/-- A word that no row of the opcode table selects is illegal (R102, R113). -/
theorem exists_decode_error (h : ∀ row ∈ opcodeRows, w &&& row.2.2 ≠ row.2.1) : ∃ e, decode w = .error e := by
  rcases decode_cases w with ⟨-, he⟩ | ⟨_, -, -, he⟩ | ⟨c, hs, -⟩
  · exact ⟨_, he⟩
  · exact ⟨_, he⟩
  · exact absurd (Mnemonic.selects_iff.mp hs) (h _ (mem_opcodeRows.mpr ⟨c, rfl⟩))

/-- The address of CMD (R73), as a turn writes it. -/
theorem target_zero : target 0 = .cmd := target_cmd

/-- A word written to CMD while BUSY = 0 becomes the pending one as it is (R310). -/
theorem step_write_cmd (hturn : s.turns = .write 0 w.toNat :: ts) (h : s.pend = none) :
    step s = .next ((s.setTurns ts).accept w) := by
  rw [step_write_of_idle hturn (by rw [State.busy, h, Option.isSome_none]), target_zero, idleWrite, BitVec.ofNat_toNat,
    BitVec.setWidth_eq]

end

/-- Settles O9: with no pending word the engine's turn keeps the state it is given. -/
theorem idleCoreKeepsItsState : Obligations.IdleCoreKeepsItsState := by
  intro s ts hpend hnext
  exact (step_of_engineNext hnext).trans (engineTurn_of_pend_eq_none hpend)

/-- Settles O7: the word is refused at the decode of its completion, and its acceptance does not look at it. -/
theorem illegalWordChangesOnlyErrAndBusy : Obligations.IllegalWordChangesOnlyErrAndBusy := by
  intro s ts w hrow hseq
  obtain ⟨e, he⟩ := exists_decode_error hrow
  refine ⟨fun hnext hpend => ?_, step_write_cmd, rfl⟩
  rw [step_of_engineNext hnext, engineTurn_of_pend_eq_some (s := s.setTurns ts) hpend, complete_of_decode_error he,
    raise_finish_setTurns hseq]

/-- Settles O27: a completion with ERR other than 0 is that of an illegal word or of a body that raised a code. -/
theorem failingCommandWritesOnlyErrAndBusy : Obligations.FailingCommandWritesOnlyErrAndBusy := by
  intro s t ts w hnext hpend hseq h herr
  rw [step_of_engineNext hnext] at h
  rcases engineTurn_cases (s.setTurns ts) with ⟨hnone, -⟩ | ⟨_, _, -, -, he⟩ | ⟨_, _, e, -, -, -, he⟩ |
    ⟨_, _, u, -, -, -, he⟩
  · cases hpend.symm.trans hnone
  · cases he.symm.trans h
    exact raise_finish_setTurns hseq ts _
  · cases he.symm.trans h
    exact raise_finish_setTurns hseq ts e
  · cases he.symm.trans h
    exact absurd rfl herr

/-- The engine's turn goes on, whatever is pending (R270). -/
theorem continues_engineTurn (s : State) : Continues (engineTurn s) := by
  rcases engineTurn_cases s with ⟨-, h⟩ | ⟨_, _, -, -, h⟩ | ⟨_, _, _, -, -, -, h⟩ | ⟨_, _, _, -, -, -, h⟩ <;>
    exact ⟨_, h⟩

/-- Settles O8: only the engine's turn runs a command, and every command completes. -/
theorem everyStepContinues : Obligations.EveryStepContinues := by
  intro s
  rcases step_cases s with ⟨ts, -, h⟩ | ⟨_, _, -, h⟩ | ⟨_, _, _, -, h⟩ | ⟨_, -, h⟩
  · exact h ▸ continues_engineTurn _
  · exact ⟨_, h⟩
  · exact ⟨_, h⟩
  · exact ⟨_, h⟩

end Sys2Proof.Machine
end

section
/-! Reset and the busy protocol (70_reset_and_hazards.md): what a host access does while BUSY = 1 (R312, R313), how a
pending command ends (R302, R311), what may clear OVR, and what a reset leaves (R300). -/

namespace Sys2Proof.Machine

open Sys2Proof.Claims

/-! ## Acceptance and completion (R310, R311) -/

theorem busy_of_pend {s : State} {w : Word} (h : s.pend = some w) : s.busy = true := by
  rw [State.busy, h, Option.isSome_some]

theorem step_completes_pending {s : State} {ts : List Turn} {w : Word} (hnext : EngineNext s ts)
    (hpend : s.pend = some w) : step s = complete w (s.setTurns ts) :=
  (step_of_engineNext hnext).trans (engineTurn_of_pend_eq_some hpend)

/-- Settles O6: however the engine comes to have the turn, it completes the pending word, which decodes. -/
theorem stepRunsTheDecodedCommand : Obligations.StepRunsTheDecodedCommand := by
  intro s ts w i hnext hpend hdec
  exact (step_completes_pending hnext hpend).trans (complete_of_decode_ok hdec _)

/-- Settles O15: CMD stands at address 0, and its idle write is the acceptance of the low 32 bits. -/
theorem commandWriteIsAccepted : Obligations.CommandWriteIsAccepted := by
  intro s ts n hturn h
  refine ⟨_, step_write_of_idle hturn h, ?_⟩
  rw [target_zero, idleWrite]
  exact ⟨rfl, rfl⟩

/-- Whatever the word, its completion clears BUSY (R311). -/
theorem exists_complete (w : Word) (s : State) : ∃ t, complete w s = .next t ∧ t.busy = false := by
  cases hd : decode w with
  | error e => exact ⟨_, complete_of_decode_error hd s, rfl⟩
  | ok i =>
    obtain ⟨t, ht⟩ := exec_next i s
    exact ⟨t.finish, by rw [complete_of_decode_ok hd, ht, finishOutcome_next], rfl⟩

/-! ## Host accesses while BUSY = 1 (R312, R313) -/

section
variable {s t u : State} {ts : List Turn} {a : Word} {n : Nat}

theorem step_read_of_busy (hturn : s.turns = .read a :: ts) (h : s.busy = true) :
    step s = .next
      { s with
        turns := ts
        replies := busyRead (Config.busyRead s.draws) s (target a) :: s.replies
        draws := s.draws + 1 } := by
  rw [step_read hturn, hostRead_of_busy (by rwa [State.setTurns_busy])]
  cases target a <;> rfl

theorem step_write_of_busy (hturn : s.turns = .write a n :: ts) (h : s.busy = true) :
    step s = .next { s with turns := ts, ovr := true } := by
  rw [step_write hturn, hostWrite_of_busy (by rwa [State.setTurns_busy])]
  rfl

/-- From s to t the command has stayed pending: nothing has changed but OVR and the model's own fields. -/
def Waited (s t : State) : Prop := t = { s with turns := t.turns, ovr := t.ovr, replies := t.replies, draws := t.draws }

theorem Waited.refl (s : State) : Waited s s := rfl

theorem Waited.trans (h : Waited s t) (h' : Waited t u) : Waited s u := by
  unfold Waited at *
  rw [h', h]

theorem Waited.pend (h : Waited s t) : t.pend = s.pend := by
  unfold Waited at h
  rw [h]

/-- While BUSY = 1 the engine has the turn, reset is asserted, or a host access leaves the command waiting. -/
theorem step_cases_of_busy (h : s.busy = true) :
    (∃ ts, EngineNext s ts) ∨ (∃ ts, s.turns = .reset :: ts) ∨
      ∃ v t, s.turns = v :: t.turns ∧ step s = .next t ∧ Waited s t := by
  rcases step_cases s with ⟨ts, hnext, -⟩ | ⟨_, _, hturn, -⟩ | ⟨_, _, _, hturn, -⟩ | ⟨ts, hturn, -⟩
  · exact .inl ⟨ts, hnext⟩
  · exact .inr (.inr ⟨_, _, hturn, step_read_of_busy hturn h, rfl⟩)
  · exact .inr (.inr ⟨_, _, hturn, step_write_of_busy hturn h, rfl⟩)
  · exact .inr (.inl ⟨ts, hturn⟩)

end

/-! ## What a read returns while BUSY = 1 (R312) -/

section
variable (d : BitVec 128) (s : State)

/-- BUSY and OVR of STATUS are right while BUSY = 1, and its reserved bits are 0. -/
theorem busyStatusWord_fields :
    busyStatusWord d s % 2 = 1 ∧ busyStatusWord d s / 8 % 2 = 0 ∧
      busyStatusWord d s / 256 = if s.ovr then 1 else 0 := by
  have hovr : s.ovr.toNat = if s.ovr then 1 else 0 := by cases s.ovr <;> rfl
  rw [busyStatusWord, statusOf, Bool.toNat_true, hovr]
  split <;> omega

theorem busyRead_lt_two_pow_width (t : Target) : busyRead d s t < 2 ^ t.width := by
  cases t with
  | cmd | reserved => exact Nat.two_pow_pos _
  | status =>
    have hovr := Bool.toNat_le s.ovr
    rw [busyRead, busyStatusWord, statusOf, Bool.toNat_true, Target.width]
    omega
  | _ => exact Nat.mod_lt _ (Nat.two_pow_pos _)

end

/-- The widths of R73, range by range. A reserved address has width 0. -/
theorem width_target_le (a : Word) :
    (0x10 ≤ a.toNat ∧ a.toNat ≤ 0x13 → (target a).width ≤ 128) ∧
    (0x1000 ≤ a.toNat ∧ a.toNat ≤ 0x103F → (target a).width ≤ 8) ∧
    (a.toNat = 2 ∨ a.toNat = 3 ∨ 0x100 ≤ a.toNat ∧ a.toNat < 0x200 ∨ 0x100000 ≤ a.toNat → (target a).width ≤ 64) ∧
    (4 ≤ a.toNat ∧ a.toNat ≤ 7 → (target a).width ≤ 32) := by
  unfold target
  rcases address_targetOf a.toNat with ha | ha
  · cases ht : targetOf a.toNat with
    | reserved =>
      rw [ht] at ha
      cases ha
    | _ =>
      rw [ht] at ha
      have hn := Option.some.inj ha
      simp only [Target.width, Config.PW, Config.XW]
      omega
  · rw [ha, Target.width]
    omega

/-- Settles O21: the value read fits the width of the target of the address, and the map gives the target. -/
theorem busyReadsKeepBusyAndOverrun : Obligations.BusyReadsKeepBusyAndOverrun := by
  intro s ts a hturn h
  have hfits {k : Nat} (hk : (target a).width ≤ k) : busyRead (Config.busyRead s.draws) s (target a) < 2 ^ k :=
    (busyRead_lt_two_pow_width _ s _).trans_le (Nat.pow_le_pow_right Nat.two_pos hk)
  obtain ⟨hscalar, hbyte, helem, hcontrol⟩ := width_target_le a
  refine ⟨_, step_read_of_busy hturn h, fun ha => ?status, fun ha => ?zero, fun ha => hfits (hscalar ha),
    fun ha => hfits (hbyte ha), fun ha => hfits (helem ha), fun ha => hfits (hcontrol ha)⟩
  case status =>
    rw [target, ha]
    exact busyStatusWord_fields _ s
  case zero =>
    rcases ha with ha | ha
    · rw [target, ha]; rfl
    · rw [target_of_not_mapped ha]; rfl

/-! ## How a pending command ends (R302, R311) -/

section
variable {s t u : State} {k : Nat}

/-- One more step after a run. -/
theorem runs_concat (hr : Runs k s u) (h : step u = .next t) : Runs (k + 1) s t := by
  induction k generalizing s with
  | zero =>
    cases hr
    exact runs_succ h (runs_zero t)
  | succ k ih =>
    obtain ⟨v, hv⟩ := everyStepContinues s
    have hr' : Runs k v u := by simpa only [Runs, Host.Core.run, core, hv] using hr
    exact runs_succ hv (ih hr')

/-- Host accesses leave the command waiting until the engine has the turn or reset is asserted, which happens within the
turns to come. By induction on these. -/
theorem exists_runs_waited (h : s.busy = true) :
    ∃ k u ts, k ≤ s.turns.length ∧ Runs k s u ∧ Waited s u ∧
      (EngineNext u ts ∨ u.turns = .reset :: ts ∧ .reset ∈ s.turns) := by
  induction hts : s.turns generalizing s with
  | nil => exact ⟨0, s, [], le_rfl, runs_zero s, .refl s, .inl (.inr ⟨hts, rfl⟩)⟩
  | cons v vs ih =>
    rcases step_cases_of_busy h with ⟨ts, hnext⟩ | ⟨ts, hreset⟩ | ⟨v', t, hturn, hstep, hw⟩
    · exact ⟨0, s, ts, Nat.zero_le _, runs_zero s, .refl s, .inl hnext⟩
    · exact ⟨0, s, ts, Nat.zero_le _, runs_zero s, .refl s, .inr ⟨hreset, by rw [← hts, hreset]; exact .head _⟩⟩
    · obtain ⟨-, hvs⟩ := List.cons.inj (hts.symm.trans hturn)
      have ht : t.busy = true := by rwa [State.busy, hw.pend]
      obtain ⟨k, u, ts, hk, hrun, hwu, hend⟩ := ih ht hvs.symm
      exact ⟨k + 1, u, ts, Nat.succ_le_succ hk, runs_succ hstep hrun, hw.trans hwu,
        hend.imp_right fun ⟨hreset, hmem⟩ => ⟨hreset, .tail _ hmem⟩⟩

end

/-- Settles O12: the waiting ends in the engine's turn, which completes the command, or in a reset. -/
theorem acceptedCommandCompletes : Obligations.AcceptedCommandCompletes := by
  intro s w hpend
  obtain ⟨k, u, ts, hk, hrun, hw, hend⟩ := exists_runs_waited (busy_of_pend hpend)
  obtain ⟨t, hcomplete, ht⟩ := exists_complete w (u.setTurns ts)
  have hengine (hnext : EngineNext u ts) : step u = complete w (u.setTurns ts) :=
    step_completes_pending hnext (hw.pend.trans hpend)
  refine ⟨?_, fun hno => ?_⟩
  · rcases hend with hnext | ⟨hreset, -⟩
    · exact ⟨k + 1, t, Nat.succ_le_succ hk, runs_concat hrun ((hengine hnext).trans hcomplete), ht⟩
    · exact ⟨k + 1, _, Nat.succ_le_succ hk, runs_concat hrun (step_reset hreset), rfl⟩
  · rcases hend with hnext | ⟨-, hmem⟩
    · exact ⟨k, u, t, ts, hk, hrun, hw, hnext, hengine hnext, (hengine hnext).trans hcomplete, ht⟩
    · exact absurd rfl (hno _ hmem)

/-! ## Reset (R300, R302) -/

/-- Settles O13: both ways into reset give these registers the same values. -/
theorem resetLeavesSpecifiedValues : Obligations.ResetLeavesSpecifiedValues := by
  rintro s t ts (rfl | ⟨hturn, h⟩)
  · exact ⟨rfl, rfl, rfl, rfl, rfl, rfl, rfl, rfl, rfl, rfl, rfl, rfl⟩
  · cases (step_reset hturn).symm.trans h
    exact ⟨rfl, rfl, rfl, rfl, rfl, rfl, rfl, rfl, rfl, rfl, rfl, rfl⟩

/-- Settles O14: reset takes nothing from PEND, and host accesses while BUSY = 1 leave the command waiting. -/
theorem resetAbandonsThePendingCommand : Obligations.ResetAbandonsThePendingCommand := by
  refine ⟨fun s ts w hturn hpend => ⟨?same, _, step_reset hturn, ?values⟩, fun s t w hpend hstep hne => ?only⟩
  case same =>
    rw [step_reset hturn, step_reset (s := { s with pend := none }) hturn]
    rfl
  case values => exact ⟨rfl, rfl, rfl, rfl, rfl, rfl, rfl, rfl, rfl, rfl, rfl⟩
  case only =>
    rcases step_cases_of_busy (busy_of_pend hpend) with ⟨ts, hnext⟩ | ⟨ts, hreset⟩ |
      ⟨_, u, -, hu, hw⟩
    · exact ⟨ts, .inr hnext⟩
    · exact ⟨ts, .inl hreset⟩
    · cases hu.symm.trans hstep
      exact absurd (hw.pend.trans hpend) hne

/-! ## What clears OVR (R42, R313) -/

section
variable {s t : State}

/-- No completion touches OVR. -/
theorem engineTurn_ovr (h : engineTurn s = .next t) : t.ovr = s.ovr := by
  rcases engineTurn_cases s with ⟨-, he⟩ | ⟨_, _, -, -, he⟩ | ⟨_, _, _, -, -, -, he⟩ | ⟨_, _, u, -, -, hu, he⟩ <;>
    cases he.symm.trans h
  · rfl
  · rfl
  · rfl
  · cases writes_of_bodyOf_ok hu <;> rfl

theorem idleWrite_ovr {g : Target} (n : Nat) (hstatus : g ≠ .status) : (idleWrite g n s).ovr = s.ovr := by
  cases g with
  | status => exact absurd rfl hstatus
  | _ => rfl

theorem hostRead_ovr (a : Word) : (hostRead a s).ovr = s.ovr := by
  unfold hostRead
  split <;> rfl

/-- A host write that clears OVR is an idle one to STATUS with bit 8 = 1. -/
theorem hostWrite_clears_ovr {a : Word} {n : Nat} (hset : s.ovr = true) (hclear : (hostWrite a n s).ovr = false) :
    s.busy = false ∧ a = 1 ∧ n.testBit 8 = true := by
  cases hbusy : s.busy with
  | true =>
    rw [hostWrite_of_busy hbusy] at hclear
    cases hclear
  | false =>
    rw [hostWrite_of_idle hbusy] at hclear
    by_cases ht : target a = .status
    · rw [ht, idleWrite_status, hset, Bool.true_and, Bool.not_eq_false'] at hclear
      exact ⟨rfl, target_inj (ht.trans target_one.symm) (by rw [ht]; nofun), hclear⟩
    · cases hset.symm.trans ((idleWrite_ovr n ht).symm.trans hclear)

end

/-- Settles O16: of the steps that leave OVR = 0 behind, the engine's turn and a read keep it as it was. -/
theorem busyWriteOnlySetsOverrun : Obligations.BusyWriteOnlySetsOverrun := by
  refine ⟨fun s ts a n => step_write_of_busy, fun s t h hset hclear => ?_⟩
  rcases step_cases s with ⟨ts, -, he⟩ | ⟨a, ts, -, he⟩ | ⟨a, n, ts, hturn, he⟩ | ⟨ts, hturn, -⟩
  · cases hset.symm.trans ((engineTurn_ovr (he.symm.trans h)).symm.trans hclear)
  · cases he.symm.trans h
    cases hset.symm.trans ((hostRead_ovr (s := s.setTurns ts) a).symm.trans hclear)
  · cases he.symm.trans h
    obtain ⟨hidle, rfl, hbit⟩ := hostWrite_clears_ovr (s := s.setTurns ts) hset hclear
    exact .inr ⟨hidle, n, ts, hturn, hbit⟩
  · exact .inl ⟨ts, hturn⟩

end Sys2Proof.Machine
end
